-- ==== Sys2Proof/Word.lean ====
section
/-! DEFINITION. The machine's Word and Byte and the plainest arithmetic on them (00_scope.md R10, R12, R14). -/

namespace Sys2Proof

/-- A Word: an unsigned 32-bit integer, all arithmetic modulo 2^32 (R10). -/
abbrev Word := BitVec 32

/-- A byte (R10, `u8`). -/
abbrev Byte := BitVec 8

/-- The 64-bit bit counter's type (R10, `u64`). -/
abbrev Count := BitVec 64

/-- `add32(x, y) = (x + y) mod 2^32` (R12). -/
abbrev add32 (x y : Word) : Word := x + y

/-- Bitwise and of two Words (R12). -/
abbrev and32 (x y : Word) : Word := x &&& y

/-- Bitwise or of two Words (R12). -/
abbrev or32 (x y : Word) : Word := x ||| y

/-- Bitwise exclusive-or of two Words (R12). -/
abbrev xor32 (x y : Word) : Word := x ^^^ y

/-- Bitwise complement of a Word (R12). -/
abbrev not32 (x : Word) : Word := ~~~x

end Sys2Proof
end

