-- ==== Sys2Proof/Config.lean ====
section
/-! DEFINITION. The core's fixed sizes (00_scope.md R6) and its free values: constants without a body, which no proof can evaluate. -/

namespace Sys2Proof

/-- Bytes in the block buffer (R6). -/
abbrev Config.blockBytes : Nat := 64

/-- Largest message byte count of a last block that still takes the length suffix, from the 448-bit
threshold `8 * (n + 1) <= 448` (40_loader.md R116; conflict C1). -/
abbrev Config.lastFitting : Nat := 55

/-- FREE VALUE (log 5): byte `a` of the block buffer as reset number `gen` leaves it
(10_state.md R35, R36; 93_implementation_defined.md U1: "any value"). -/
opaque Config.powerOnByte (gen a : Nat) : Byte

/-- FREE VALUE (log 6): working register `w[j]` as reset number `gen` leaves it (10_state.md R35; U2). -/
opaque Config.powerOnWord (gen j : Nat) : Word

/-- FREE VALUE (log 10): `rotl32(x, 0)`, which 00_scope.md R13 does not define. -/
opaque Config.rotlZero (x : Word) : Word

/-- FREE VALUE (log 8): the bit of the HASMORE that draw number `d` answers while `fault = 1`
(60_exceptions.md R203; U4). -/
opaque Config.faultedMore (d : Nat) : Bool

/-- FREE VALUE (log 8): Word `k` of the Block of a NEXT issued while `fault = 1` (R203; U4). -/
opaque Config.faultedWord (d k : Nat) : Word

/-- FREE VALUE (log 8): byte `j` of a DIGEST issued while `fault = 1` (R203; U4). -/
opaque Config.faultedByte (d j : Nat) : Byte

/-- FREE VALUE (log 3): byte `j` of answer number `read` of the byte source's stream `id` (20_memory.md R57; D6). -/
opaque Config.streamByte (id read j : Nat) : Byte

/-- FREE VALUE (log 3): how many bytes that answer has where it is one that ends a message (R56, R57; D6). -/
opaque Config.streamLength (id read : Nat) : Fin 65

/-- FREE VALUE (log 3): the `eod` of such an answer where it is short (R57; D6: it need not be truthful). -/
opaque Config.streamEod (id read : Nat) : Bool

/-- FREE VALUE (log 3): how many full chunks without end-of-data stream `id` delivers from answer number `read` on
before the next answer that ends a message; none where it delivers them without end (42_driver.md R183; D6). -/
opaque Config.streamFull (id read : Nat) : Option Nat

/-- FREE VALUE (log 19): how many answers a RUN that does not end had taken when reset abandoned it
(70_reset_and_hazards.md R230). -/
opaque Config.abandonedReads (d : Nat) : Nat

end Sys2Proof
end

