-- ==== Sys2Proof/Machine/Rom.lean ====
section
/-! DEFINITION. The constant stores: the sine table `T` (41_engine.md R146), the step control store `CW`
(30_encoding.md R85), the initial constants (42_driver.md R181) and the padding marker (30_encoding.md R92).
Nothing writes them (10_state.md R37, 20_memory.md R69). -/

namespace Sys2Proof

/-- `T[1]` to `T[16]` (R146). -/
def Rom.sineRoundOne : List Word :=
  [
    0xd76aa478#32, 0xe8c7b756#32, 0x242070db#32, 0xc1bdceee#32,
    0xf57c0faf#32, 0x4787c62a#32, 0xa8304613#32, 0xfd469501#32,
    0x698098d8#32, 0x8b44f7af#32, 0xffff5bb1#32, 0x895cd7be#32,
    0x6b901122#32, 0xfd987193#32, 0xa679438e#32, 0x49b40821#32
  ]

/-- `T[17]` to `T[32]` (R146). -/
def Rom.sineRoundTwo : List Word :=
  [
    0xf61e2562#32, 0xc040b340#32, 0x265e5a51#32, 0xe9b6c7aa#32,
    0xd62f105d#32, 0x02441453#32, 0xd8a1e681#32, 0xe7d3fbc8#32,
    0x21e1cde6#32, 0xc33707d6#32, 0xf4d50d87#32, 0x455a14ed#32,
    0xa9e3e905#32, 0xfcefa3f8#32, 0x676f02d9#32, 0x8d2a4c8a#32
  ]

/-- `T[33]` to `T[48]` (R146). -/
def Rom.sineRoundThree : List Word :=
  [
    0xfffa3942#32, 0x8771f681#32, 0x6d9d6122#32, 0xfde5380c#32,
    0xa4beea44#32, 0x4bdecfa9#32, 0xf6bb4b60#32, 0xbebfbc70#32,
    0x289b7ec6#32, 0xeaa127fa#32, 0xd4ef3085#32, 0x04881d05#32,
    0xd9d4d039#32, 0xe6db99e5#32, 0x1fa27cf8#32, 0xc4ac5665#32
  ]

/-- `T[49]` to `T[64]` (R146). -/
def Rom.sineRoundFour : List Word :=
  [
    0xf4292244#32, 0x432aff97#32, 0xab9423a7#32, 0xfc93a039#32,
    0x655b59c3#32, 0x8f0ccc92#32, 0xffeff47d#32, 0x85845dd1#32,
    0x6fa87e4f#32, 0xfe2ce6e0#32, 0xa3014314#32, 0x4e0811a1#32,
    0xf7537e82#32, 0xbd3af235#32, 0x2ad7d2bb#32, 0xeb86d391#32
  ]

/-- The sine-table ROM, `T[1]` first (R146). -/
def Rom.sineTable : List Word :=
  Rom.sineRoundOne ++ Rom.sineRoundTwo ++ Rom.sineRoundThree ++ Rom.sineRoundFour

/-- `T[i]`; there is no `T[0]` and nothing above `T[64]` (R146, 20_memory.md R63). -/
def Rom.sine? : Nat → Option Word
  | 0 => none
  | i + 1 => Rom.sineTable[i]?

/-- `CW[1]` to `CW[16]` (R85). -/
def Rom.controlRoundOne : List (BitVec 11) :=
  [
    0x007#11, 0x02c#11, 0x051#11, 0x076#11, 0x087#11, 0x0ac#11, 0x0d1#11, 0x0f6#11,
    0x107#11, 0x12c#11, 0x151#11, 0x176#11, 0x187#11, 0x1ac#11, 0x1d1#11, 0x1f6#11
  ]

/-- `CW[17]` to `CW[32]` (R85). -/
def Rom.controlRoundTwo : List (BitVec 11) :=
  [
    0x225#11, 0x2c9#11, 0x36e#11, 0x214#11, 0x2a5#11, 0x349#11, 0x3ee#11, 0x294#11,
    0x325#11, 0x3c9#11, 0x26e#11, 0x314#11, 0x3a5#11, 0x249#11, 0x2ee#11, 0x394#11
  ]

/-- `CW[33]` to `CW[48]` (R85). -/
def Rom.controlRoundThree : List (BitVec 11) :=
  [
    0x4a4#11, 0x50b#11, 0x570#11, 0x5d7#11, 0x424#11, 0x48b#11, 0x4f0#11, 0x557#11,
    0x5a4#11, 0x40b#11, 0x470#11, 0x4d7#11, 0x524#11, 0x58b#11, 0x5f0#11, 0x457#11
  ]

/-- `CW[49]` to `CW[64]` (R85). -/
def Rom.controlRoundFour : List (BitVec 11) :=
  [
    0x606#11, 0x6ea#11, 0x7cf#11, 0x6b5#11, 0x786#11, 0x66a#11, 0x74f#11, 0x635#11,
    0x706#11, 0x7ea#11, 0x6cf#11, 0x7b5#11, 0x686#11, 0x76a#11, 0x64f#11, 0x735#11
  ]

/-- The step control store, `CW[1]` first (R85). -/
def Rom.controlStore : List (BitVec 11) :=
  Rom.controlRoundOne ++ Rom.controlRoundTwo ++ Rom.controlRoundThree ++ Rom.controlRoundFour

/-- `CW[i]`; indices 0 and 65 to 127 have no entry (R86). -/
def Rom.controlWord? : Nat → Option (BitVec 11)
  | 0 => none
  | i + 1 => Rom.controlStore[i]?

/-- Initial constant A0 (R181). -/
def Rom.initA : Word := 0x67452301#32

/-- Initial constant B0 (R181). -/
def Rom.initB : Word := 0xefcdab89#32

/-- Initial constant C0 (R181). -/
def Rom.initC : Word := 0x98badcfe#32

/-- Initial constant D0 (R181). -/
def Rom.initD : Word := 0x10325476#32

/-- The padding marker byte (30_encoding.md R92). -/
def Rom.marker : Byte := 0x80#8

end Sys2Proof
end

