-- ==== Sys2Proof/Syntax.lean ====
section
/-! DEFINITION. The instructions: one constructor for each row of spec/opcode_table.json (30_encoding.md R80, R82,
R83, R87), the codes they are written in, and the names under which a code is rejected. -/

namespace Sys2Proof

/-- The auxiliary function a step uses, the control word's field `fn` (30_encoding.md R83). -/
inductive AuxFn where
  | f
  | g
  | h
  | i
deriving DecidableEq, Repr

/-- An instruction of MD5CORE: six commands, four step kinds, LATCH and CHAIN, and the 64 entries of the control
store (R87: each entry is an instance of a step kind, at its own index). -/
inductive Instr where
  /-- INIT (42_driver.md R180). -/
  | init
  /-- HASMORE (40_loader.md R110). -/
  | hasmore
  /-- NEXT (40_loader.md R111 to R122). -/
  | next
  /-- COMPRESS (41_engine.md R140). -/
  | compress
  /-- DIGEST (42_driver.md R184). -/
  | digest
  /-- RUN (42_driver.md R182). -/
  | run
  /-- STEP.F with message index `k` and rotate amount `s` (41_engine.md R153). -/
  | stepF (k : BitVec 4) (s : BitVec 5)
  /-- STEP.G (41_engine.md R154). -/
  | stepG (k : BitVec 4) (s : BitVec 5)
  /-- STEP.H (41_engine.md R155). -/
  | stepH (k : BitVec 4) (s : BitVec 5)
  /-- STEP.I (41_engine.md R156). -/
  | stepI (k : BitVec 4) (s : BitVec 5)
  /-- LATCH (41_engine.md R152). -/
  | latch
  /-- CHAIN (41_engine.md R158). -/
  | chain
  | cw1
  | cw2
  | cw3
  | cw4
  | cw5
  | cw6
  | cw7
  | cw8
  | cw9
  | cw10
  | cw11
  | cw12
  | cw13
  | cw14
  | cw15
  | cw16
  | cw17
  | cw18
  | cw19
  | cw20
  | cw21
  | cw22
  | cw23
  | cw24
  | cw25
  | cw26
  | cw27
  | cw28
  | cw29
  | cw30
  | cw31
  | cw32
  | cw33
  | cw34
  | cw35
  | cw36
  | cw37
  | cw38
  | cw39
  | cw40
  | cw41
  | cw42
  | cw43
  | cw44
  | cw45
  | cw46
  | cw47
  | cw48
  | cw49
  | cw50
  | cw51
  | cw52
  | cw53
  | cw54
  | cw55
  | cw56
  | cw57
  | cw58
  | cw59
  | cw60
  | cw61
  | cw62
  | cw63
  | cw64
deriving DecidableEq, Repr

/-- What an instruction is written in: a 3-bit command code (R80), an 11-bit step control word (R83), or, for the
two micro-operations without bits, the value of `step` at which the controller performs them (R82, R87). -/
inductive Code where
  | cmd (c : BitVec 3)
  | ctl (w : BitVec 11)
  | seq (step : BitVec 7)
deriving DecidableEq, Repr

/-- Why a code is no instruction. -/
inductive Reject where
  /-- `cmd` = 0b110 or 0b111: reserved, not a command (R94). -/
  | reservedCommand (c : BitVec 3)
  /-- A `step` value at which neither LATCH nor CHAIN is performed (R87). -/
  | notSequenced (step : BitVec 7)
  /-- Bits above the format's own are not zero. -/
  | strayBits
  /-- The container is wider than two bytes: no format is read from it (R95; log 18). -/
  | noSuchWidth
deriving DecidableEq, Repr

end Sys2Proof
end

