-- ==== Sys2Proof/WellFormed.lean ====
section
/-! DEFINITION. The check on an instruction: each control word has ONE spelling. A word that stands in the control
store is the store's entry `CW[i]` (30_encoding.md R85, R87), so a STEP kind written with such a word's fields is not
well-formed; every other term is (log 11). -/

namespace Sys2Proof

/-- The field `fn` of a step kind (30_encoding.md R83). -/
def AuxFn.code : AuxFn → BitVec 2
  | .f => 0b00#2
  | .g => 0b01#2
  | .h => 0b10#2
  | .i => 0b11#2

/-- The control word `ffkkkksssss` (R83). -/
def ctlWord (fn : AuxFn) (k : BitVec 4) (s : BitVec 5) : BitVec 11 := fn.code ++ k ++ s

/-- The word of these fields is no entry of the control store. -/
def outsideStore (fn : AuxFn) (k : BitVec 4) (s : BitVec 5) : Bool :=
  !(Rom.controlStore.contains (ctlWord fn k s))

/-- The instruction is spelled the one way its word decodes to. -/
def Instr.wf : Instr → Bool
  | .stepF k s => outsideStore .f k s
  | .stepG k s => outsideStore .g k s
  | .stepH k s => outsideStore .h k s
  | .stepI k s => outsideStore .i k s
  | .init | .hasmore | .next | .compress | .digest | .run | .latch | .chain
  | .cw1 | .cw2 | .cw3 | .cw4 | .cw5 | .cw6 | .cw7 | .cw8
  | .cw9 | .cw10 | .cw11 | .cw12 | .cw13 | .cw14 | .cw15 | .cw16
  | .cw17 | .cw18 | .cw19 | .cw20 | .cw21 | .cw22 | .cw23 | .cw24
  | .cw25 | .cw26 | .cw27 | .cw28 | .cw29 | .cw30 | .cw31 | .cw32
  | .cw33 | .cw34 | .cw35 | .cw36 | .cw37 | .cw38 | .cw39 | .cw40
  | .cw41 | .cw42 | .cw43 | .cw44 | .cw45 | .cw46 | .cw47 | .cw48
  | .cw49 | .cw50 | .cw51 | .cw52 | .cw53 | .cw54 | .cw55 | .cw56
  | .cw57 | .cw58 | .cw59 | .cw60 | .cw61 | .cw62 | .cw63 | .cw64 => true

end Sys2Proof
end

