-- ==== Sys2Proof/Decode.lean ====
section
/-! DEFINITION. Decoding of command codes, control words and sequencing values, total and rejecting by name
(30_encoding.md R80 to R87, R94, R95), and after it the encoder, written from the rows of spec/opcode_table.json. -/

namespace Sys2Proof

/-- `fn`, bits 10:9 of a control word (R83). -/
def ctlFn (w : BitVec 11) : AuxFn :=
  match (w.extractLsb' 9 2).toNat with
  | 0 => .f
  | 1 => .g
  | 2 => .h
  | _ => .i

/-- `k`, bits 8:5 of a control word (R83). -/
def ctlK (w : BitVec 11) : BitVec 4 := w.extractLsb' 5 4

/-- `s`, bits 4:0 of a control word (R83). -/
def ctlS (w : BitVec 11) : BitVec 5 := w.extractLsb' 0 5

/-- The step kind with these fields (R83). -/
def stepInstr (fn : AuxFn) (k : BitVec 4) (s : BitVec 5) : Instr :=
  match fn with
  | .f => .stepF k s
  | .g => .stepG k s
  | .h => .stepH k s
  | .i => .stepI k s

/-- The store's entries 1 to 16 as instructions (R87). -/
def entriesRoundOne : List Instr :=
  [
    .cw1, .cw2, .cw3, .cw4, .cw5, .cw6, .cw7, .cw8,
    .cw9, .cw10, .cw11, .cw12, .cw13, .cw14, .cw15, .cw16
  ]

/-- The store's entries 17 to 32 as instructions (R87). -/
def entriesRoundTwo : List Instr :=
  [
    .cw17, .cw18, .cw19, .cw20, .cw21, .cw22, .cw23, .cw24,
    .cw25, .cw26, .cw27, .cw28, .cw29, .cw30, .cw31, .cw32
  ]

/-- The store's entries 33 to 48 as instructions (R87). -/
def entriesRoundThree : List Instr :=
  [
    .cw33, .cw34, .cw35, .cw36, .cw37, .cw38, .cw39, .cw40,
    .cw41, .cw42, .cw43, .cw44, .cw45, .cw46, .cw47, .cw48
  ]

/-- The store's entries 49 to 64 as instructions (R87). -/
def entriesRoundFour : List Instr :=
  [
    .cw49, .cw50, .cw51, .cw52, .cw53, .cw54, .cw55, .cw56,
    .cw57, .cw58, .cw59, .cw60, .cw61, .cw62, .cw63, .cw64
  ]

/-- The 64 entries as instructions, `CW[1]` first (R87). -/
def entryInstrs : List Instr := entriesRoundOne ++ entriesRoundTwo ++ entriesRoundThree ++ entriesRoundFour

/-- The instruction paired with the word `w`, if one is. -/
def findEntry (w : BitVec 11) : List (BitVec 11) → List Instr → Option Instr
  | v :: vs, i :: is => if v = w then some i else findEntry w vs is
  | _, _ => none

/-- The first index, counted from `n`, at which `w` stands in the list. -/
def findIndex (w : BitVec 11) (n : Nat) : List (BitVec 11) → Option Nat
  | [] => none
  | v :: vs => if v = w then some n else findIndex w (n + 1) vs

/-- The index of a word in the control store, 1 to 64 (R85). -/
def storeIndex (w : BitVec 11) : Option Nat := findIndex w 1 Rom.controlStore

/-- A command code (R80; 0b110 and 0b111 are reserved, R94). -/
def decodeCmd (c : BitVec 3) : Except Reject Instr :=
  match c.toNat with
  | 0 => .ok .init
  | 1 => .ok .hasmore
  | 2 => .ok .next
  | 3 => .ok .compress
  | 4 => .ok .digest
  | 5 => .ok .run
  | _ => .error (.reservedCommand c)

/-- A control word: the store's entry where it is one, else its step kind (R83, R85, R87; log 11). Every word of 11
bits is an instruction: all values of `fn` and `k` are used (R94). -/
def decodeCtl (w : BitVec 11) : Instr :=
  match findEntry w Rom.controlStore entryInstrs with
  | some i => i
  | none => stepInstr (ctlFn w) (ctlK w) (ctlS w)

/-- A sequencing value: LATCH at `step` = 0, CHAIN at `step` = 65 (R82, R87). -/
def decodeSeq (step : BitVec 7) : Except Reject Instr :=
  match step.toNat with
  | 0 => .ok .latch
  | 65 => .ok .chain
  | _ => .error (.notSequenced step)

/-- The instruction a code stands for, or the name under which it is rejected. -/
def decode : Code → Except Reject Instr
  | .cmd c => decodeCmd c
  | .ctl w => .ok (decodeCtl w)
  | .seq st => decodeSeq st

/-- The code in `nbits` bits of value `w`: with none the value of `step` (SEQ), with 1 to 8 a command (CMD), with 9 to 16 a
control word (STEP and ROM). DESIGN CHOICE (log 18): R95 gives the codes' 3 and 11 bits and no container, so every
container of at most one byte is read as a command and of at most two as a control word; a value beyond the code's own
bits, and any container of more than two bytes, is refused by name. -/
def codeOfBits (nbits w : Nat) : Except Reject Code :=
  match nbits with
  | 0 => if w < 128 then .ok (.seq (BitVec.ofNat 7 w)) else .error .strayBits
  | n + 1 =>
    if n < 8 then (if w < 8 then .ok (.cmd (BitVec.ofNat 3 w)) else .error .strayBits)
    else if n < 16 then (if w < 2048 then .ok (.ctl (BitVec.ofNat 11 w)) else .error .strayBits)
    else .error .noSuchWidth

/-- Decoding of any bits: `nbits` bits of value `w`, bit 0 least significant. -/
def decodeBits (nbits w : Nat) : Except Reject Instr :=
  match codeOfBits nbits w with
  | .ok code => decode code
  | .error r => .error r

/-- The instruction the decoder reads from a row's bits, as spec/opcode_table.json numbers them. -/
def decodeTableWord (nbits w : Nat) : Option Instr :=
  match decodeBits nbits w with
  | .ok i => some i
  | .error _ => none

/-- The code the round controller performs at this value of `step`: LATCH at 0, the store's word at 1 to 64, CHAIN at
65, nothing above (41_engine.md R157, 10_state.md R29, 30_encoding.md R86). -/
def controllerCode (step : BitVec 7) : Option Code :=
  match Rom.controlWord? step.toNat with
  | some w => some (.ctl w)
  | none => if step = 0#7 ∨ step = 65#7 then some (.seq step) else none

/-- The code of an instruction: the rows of spec/opcode_table.json (R80, R83, R85, R87). -/
def encode : Instr → Code
  | .init => .cmd 0b000#3
  | .hasmore => .cmd 0b001#3
  | .next => .cmd 0b010#3
  | .compress => .cmd 0b011#3
  | .digest => .cmd 0b100#3
  | .run => .cmd 0b101#3
  | .stepF k s => .ctl (ctlWord .f k s)
  | .stepG k s => .ctl (ctlWord .g k s)
  | .stepH k s => .ctl (ctlWord .h k s)
  | .stepI k s => .ctl (ctlWord .i k s)
  | .latch => .seq 0#7
  | .chain => .seq 65#7
  | .cw1 => .ctl 0b00000000111#11
  | .cw2 => .ctl 0b00000101100#11
  | .cw3 => .ctl 0b00001010001#11
  | .cw4 => .ctl 0b00001110110#11
  | .cw5 => .ctl 0b00010000111#11
  | .cw6 => .ctl 0b00010101100#11
  | .cw7 => .ctl 0b00011010001#11
  | .cw8 => .ctl 0b00011110110#11
  | .cw9 => .ctl 0b00100000111#11
  | .cw10 => .ctl 0b00100101100#11
  | .cw11 => .ctl 0b00101010001#11
  | .cw12 => .ctl 0b00101110110#11
  | .cw13 => .ctl 0b00110000111#11
  | .cw14 => .ctl 0b00110101100#11
  | .cw15 => .ctl 0b00111010001#11
  | .cw16 => .ctl 0b00111110110#11
  | .cw17 => .ctl 0b01000100101#11
  | .cw18 => .ctl 0b01011001001#11
  | .cw19 => .ctl 0b01101101110#11
  | .cw20 => .ctl 0b01000010100#11
  | .cw21 => .ctl 0b01010100101#11
  | .cw22 => .ctl 0b01101001001#11
  | .cw23 => .ctl 0b01111101110#11
  | .cw24 => .ctl 0b01010010100#11
  | .cw25 => .ctl 0b01100100101#11
  | .cw26 => .ctl 0b01111001001#11
  | .cw27 => .ctl 0b01001101110#11
  | .cw28 => .ctl 0b01100010100#11
  | .cw29 => .ctl 0b01110100101#11
  | .cw30 => .ctl 0b01001001001#11
  | .cw31 => .ctl 0b01011101110#11
  | .cw32 => .ctl 0b01110010100#11
  | .cw33 => .ctl 0b10010100100#11
  | .cw34 => .ctl 0b10100001011#11
  | .cw35 => .ctl 0b10101110000#11
  | .cw36 => .ctl 0b10111010111#11
  | .cw37 => .ctl 0b10000100100#11
  | .cw38 => .ctl 0b10010001011#11
  | .cw39 => .ctl 0b10011110000#11
  | .cw40 => .ctl 0b10101010111#11
  | .cw41 => .ctl 0b10110100100#11
  | .cw42 => .ctl 0b10000001011#11
  | .cw43 => .ctl 0b10001110000#11
  | .cw44 => .ctl 0b10011010111#11
  | .cw45 => .ctl 0b10100100100#11
  | .cw46 => .ctl 0b10110001011#11
  | .cw47 => .ctl 0b10111110000#11
  | .cw48 => .ctl 0b10001010111#11
  | .cw49 => .ctl 0b11000000110#11
  | .cw50 => .ctl 0b11011101010#11
  | .cw51 => .ctl 0b11111001111#11
  | .cw52 => .ctl 0b11010110101#11
  | .cw53 => .ctl 0b11110000110#11
  | .cw54 => .ctl 0b11001101010#11
  | .cw55 => .ctl 0b11101001111#11
  | .cw56 => .ctl 0b11000110101#11
  | .cw57 => .ctl 0b11100000110#11
  | .cw58 => .ctl 0b11111101010#11
  | .cw59 => .ctl 0b11011001111#11
  | .cw60 => .ctl 0b11110110101#11
  | .cw61 => .ctl 0b11010000110#11
  | .cw62 => .ctl 0b11101101010#11
  | .cw63 => .ctl 0b11001001111#11
  | .cw64 => .ctl 0b11100110101#11

end Sys2Proof
end

