-- ==== Sys2Proof/Machine/State.lean ====
section
/-! DEFINITION. The machine's state, its faults and refusals, and the state after reset (10_state.md R21 to R35). -/

namespace Sys2Proof.Machine

/-- Four Words: the DigestState (A, B, C, D) or the working registers (a, b, c, d) (10_state.md R21, R22). -/
structure Quad where
  a : Word
  b : Word
  c : Word
  d : Word
deriving DecidableEq, Repr

/-- The block buffer's written bytes, as (index, byte) cells with rising indices below 64 (10_state.md R25). An index
that is not listed holds no value the model knows (log 5). -/
abbrev Memory := List Host.Cell

/-- The LoaderState (10_state.md R26). -/
inductive LoaderState where
  | reading
  | padding
  | done
deriving DecidableEq, Repr

/-- One answer of the byte source, `(n, bytes, eod)` with `n = bytes.length <= 64` (20_memory.md R56; U10). -/
structure SourceAnswer where
  bytes : List Byte
  eod : Bool
  short : bytes.length ≤ 64
deriving DecidableEq, Repr

/-- What the byte source does once its listed answers are used up (20_memory.md R57; D6; log 3). -/
inductive SourceTail where
  /-- Every further answer is `(0, empty, 1)` (30_encoding.md R96). -/
  | ended
  /-- No further read is ever answered (20_memory.md R60). -/
  | silent
  /-- Every further read is answered, under no law but `n <= 64`: answer number `read` and those after it of stream
  `id`, whose contents are free values. `full` is how many full chunks without end-of-data come before the next answer
  that ends a message; none: they come without end (42_driver.md R183). -/
  | stream (id read : Nat) (full : Option Nat)
deriving DecidableEq, Repr

/-- The byte source attached to the port: plain data, so that a statement about every state holds for every source
(20_memory.md R57; 92_eei_decisions.md D6; log 3). -/
structure Source where
  pending : List SourceAnswer
  tail : SourceTail
deriving DecidableEq, Repr

/-- What the host does next (70_reset_and_hazards.md R230, R233, R240; log 2). -/
inductive HostInput where
  /-- Issue the command with this code (30_encoding.md R80). -/
  | command (c : BitVec 3)
  /-- Apply reset (R230). -/
  | reset
  /-- Attach a byte source to the port (R233). -/
  | attach (src : Source)
deriving DecidableEq, Repr

/-- What a command returns beside the status pair (30_encoding.md R81). -/
inductive ResultData where
  /-- INIT, COMPRESS, RUN, and the NEXT that raises LOADER_SEQ (40_loader.md R121). -/
  | nothing
  /-- HASMORE: the bit `more`. -/
  | more (b : Bool)
  /-- NEXT: the 16 Words `M[0..15]`. -/
  | block (ws : List Word)
  /-- DIGEST: the 16 bytes. -/
  | digest (bs : List Byte)
deriving DecidableEq, Repr

/-- What a command returns: the status pair as it stands when the command completes, and its data (R81). -/
structure Result where
  fault : Bool
  faultCode : BitVec 2
  data : ResultData
deriving DecidableEq, Repr

/-- Why the machine stops. The spec's own fault, LOADER_SEQ, is no stop: it is a next state with `State.fault` set. -/
inductive Fault where
  /-- Raised by NEXT and RUN: a source read is never answered, so the command has no step (20_memory.md R60; U9
  "stuck"; log 4). Safe: the model stops where the hardware waits. -/
  | sourceSilent
  /-- Raised by RUN: the source delivers full chunks without end, so the command does not end (42_driver.md R183; log 4).
  Safe: the model stops where the hardware goes on for ever inside one command. -/
  | sourceEndless
deriving DecidableEq, Repr

/-- Why a code has no meaning in a state. -/
inductive Refusal where
  /-- Raised by `exec` for an instruction without a meaning; no arm does. Safe. -/
  | notModelled (mnemonic : String)
  /-- Raised by a step on a code that is no instruction, such as the reserved commands 0b110 and 0b111
  (30_encoding.md R94, refused by name). Safe. -/
  | undecodable (r : Reject)
  /-- Raised by LATCH, and so by COMPRESS and RUN, when `step` is not 0 (precondition of 41_engine.md R152; U12).
  Safe. -/
  | engineBusy (step : BitVec 7)
  /-- Raised by a STEP, and by a step of the round controller, at a `step` without a table entry (30_encoding.md
  R86; U12). Safe. -/
  | noSuchStep (step : BitVec 7)
  /-- Raised by `CW[index]` when `step` is not its index (precondition of 41_engine.md R151; log 11). Safe. -/
  | notAtEntry (index : Nat) (step : BitVec 7)
  /-- Raised by CHAIN when `step` is not 65 (precondition of 41_engine.md R158; U12). Safe. -/
  | notAtChain (step : BitVec 7)
deriving DecidableEq, Repr

/-- The state: the spec's registers and buffer, and after them the model's own fields (INVENTORY.md, State). -/
structure State where
  /-- A, B, C, D (R21). -/
  digest : Quad
  /-- The working registers `w[0..3]` = a, b, c, d (R22). -/
  work : Quad
  /-- The block buffer (R25). -/
  buf : Memory
  /-- The LoaderState (R26). -/
  lstate : LoaderState
  /-- `msize`, the message bits read so far (R27). -/
  msize : Count
  /-- `eod_latched` (R28). -/
  eodLatched : Bool
  /-- The round controller's `step` (R29). -/
  step : BitVec 7
  /-- `fault` (R30). -/
  fault : Bool
  /-- `fault_code` (R30, 30_encoding.md R88). -/
  faultCode : BitVec 2
  /-- MODEL'S OWN: the byte source at the port (log 3). -/
  src : Source
  /-- MODEL'S OWN: the host's inputs still to come (log 2). -/
  host : List HostInput
  /-- MODEL'S OWN: a code placed at the engine by `withFetchWord` (log 15). -/
  forced : Option Code
  /-- MODEL'S OWN: what the last completed command returned (log 7). -/
  result : Option Result
  /-- MODEL'S OWN: resets applied so far, the index of the power-on free values (log 5, log 6). -/
  resets : Nat
  /-- MODEL'S OWN: free results drawn so far (log 8, log 19). -/
  draws : Nat
deriving DecidableEq, Repr

/-- The DigestState that reset and INIT load (R35, 42_driver.md R181). -/
def initialDigest : Quad := ⟨Rom.initA, Rom.initB, Rom.initC, Rom.initD⟩

/-- The working registers as reset number `gen` leaves them: free values (R35; log 6). -/
def powerOnWork (gen : Nat) : Quad :=
  ⟨Config.powerOnWord gen 0, Config.powerOnWord gen 1, Config.powerOnWord gen 2, Config.powerOnWord gen 3⟩

/-- The machine right after reset (R35, 70_reset_and_hazards.md R230), with no host input to come and a byte source
that answers `(0, empty, 1)` to every read (log 3). -/
def State.reset : State where
  digest := initialDigest
  work := powerOnWork 0
  buf := []
  lstate := .reading
  msize := 0#64
  eodLatched := false
  step := 0#7
  fault := false
  faultCode := 0#2
  src := ⟨[], .ended⟩
  host := []
  forced := none
  result := none
  resets := 0
  draws := 0

end Sys2Proof.Machine
end

