-- ==== Sys2Proof/Machine/Ops.lean ====
section
/-! DEFINITION. The named operations over the state: one update for each field, the buffer's bytes, the byte-source
port, completing a command, taking the fault LOADER_SEQ, and reset. -/

namespace Sys2Proof.Machine

/-! ## One update for each field -/

def State.setDigest (s : State) (q : Quad) : State := { s with digest := q }
def State.setWork (s : State) (q : Quad) : State := { s with work := q }
def State.setBuf (s : State) (m : Memory) : State := { s with buf := m }
def State.setLstate (s : State) (l : LoaderState) : State := { s with lstate := l }
def State.setMsize (s : State) (n : Count) : State := { s with msize := n }
def State.setEodLatched (s : State) (b : Bool) : State := { s with eodLatched := b }
def State.setStep (s : State) (n : BitVec 7) : State := { s with step := n }
def State.setFault (s : State) (b : Bool) : State := { s with fault := b }
def State.setFaultCode (s : State) (c : BitVec 2) : State := { s with faultCode := c }
def State.setSrc (s : State) (x : Source) : State := { s with src := x }
def State.setHost (s : State) (h : List HostInput) : State := { s with host := h }
def State.setForced (s : State) (c : Option Code) : State := { s with forced := c }
def State.setResult (s : State) (r : Option Result) : State := { s with result := r }
def State.setResets (s : State) (n : Nat) : State := { s with resets := n }
def State.setDraws (s : State) (n : Nat) : State := { s with draws := n }

/-! ## The block buffer's bytes (10_state.md R25, 20_memory.md R50) -/

/-- The byte listed at index `a`, if one is. -/
def Memory.read : Memory → Nat → Option Byte
  | [], _ => none
  | (b, v) :: m, a => if b = a then some v else Memory.read m a

/-- `buf[a] <- v`, keeping the indices rising. -/
def Memory.write : Memory → Nat → Byte → Memory
  | [], a, v => [(a, v)]
  | (b, u) :: m, a, v =>
    if a < b then (a, v) :: (b, u) :: m
    else if a = b then (a, v) :: m
    else (b, u) :: Memory.write m a v

/-- `buf[a], buf[a + 1], ... <- vs` in order (20_memory.md R52). -/
def Memory.writeBytes : Memory → Nat → List Byte → Memory
  | m, _, [] => m
  | m, a, v :: vs => Memory.writeBytes (Memory.write m a v) (a + 1) vs

/-- The indices rise from `lo` and stay below 64. -/
def Memory.wfFrom : Nat → Memory → Bool
  | _, [] => true
  | lo, (a, _) :: m => decide (lo ≤ a) && decide (a < Config.blockBytes) && Memory.wfFrom (a + 1) m

/-- The canonical form: strictly rising indices, all below 64. -/
def Memory.wf (m : Memory) : Bool := Memory.wfFrom 0 m

/-- `buf[a]`; where nothing has been written since reset, the free value (10_state.md R36; U1; log 5). -/
def State.bufByte (s : State) (a : Nat) : Byte := (Memory.read s.buf a).getD (Config.powerOnByte s.resets a)

/-! ## Sequencing -/

/-- The second operation after the first, unless the first stops. -/
def andThen (o : Host.Outcome State Fault Refusal) (k : State → Host.Outcome State Fault Refusal) :
    Host.Outcome State Fault Refusal :=
  match o with
  | .next s => k s
  | .fault r => .fault r
  | .refused r => .refused r

/-! ## The byte-source port (20_memory.md R56 to R60) -/

/-- The answer `(0, empty, 1)`. -/
def emptyAnswer : SourceAnswer := ⟨[], true, Nat.zero_le _⟩

/-- A full chunk without end-of-data, as answer number `read` of stream `id` (R57; log 3). -/
def streamChunk (id read : Nat) : SourceAnswer :=
  ⟨(List.range 64).map (Config.streamByte id read), false, by simp⟩

/-- An answer that ends a message, short or full with end-of-data, as answer number `read` of stream `id` (R57; log
3). -/
def streamEnd (id read : Nat) : SourceAnswer :=
  let n := Config.streamLength id read
  ⟨(List.range n.val).map (Config.streamByte id read), Config.streamEod id read || decide (n.val = 64), by
    simp only [List.length_map, List.length_range]; omega⟩

/-- The next answer of a stream, and what the stream does after it (R57; log 3). -/
def streamRead (id read : Nat) : Option Nat → SourceAnswer × SourceTail
  | none => (streamChunk id read, .stream id (read + 1) none)
  | some (n + 1) => (streamChunk id read, .stream id (read + 1) (some n))
  | some 0 => (streamEnd id read, .stream id (read + 1) (Config.streamFull id (read + 1)))

/-- `SourceRead()`: the next answer and the source after it; none where the read is never answered (R60). -/
def sourceRead (x : Source) : Option (SourceAnswer × Source) :=
  match x.pending, x.tail with
  | a :: rest, t => some (a, ⟨rest, t⟩)
  | [], .ended => some (emptyAnswer, x)
  | [], .silent => none
  | [], .stream id read full => some ((streamRead id read full).1, ⟨[], (streamRead id read full).2⟩)

/-- The source after `n` further reads, or after as many as it answers. -/
def Source.afterReads : Nat → Source → Source
  | 0, x => x
  | n + 1, x =>
    match sourceRead x with
    | some (_, rest) => Source.afterReads n rest
    | none => x

/-! ## Commands: the check of `fault`, completion, results (30_encoding.md R81, 60_exceptions.md R203, R205) -/

/-- The command completes and returns the status pair and `data` (R81). DESIGN CHOICE (log 26): the pair is returned as it
stands, also where `fault_code` does not match `fault`, a state R38 and U12 give no meaning. -/
def State.complete (s : State) (data : ResultData) : State :=
  s.setResult (some ⟨s.fault, s.faultCode, data⟩)

/-- The command completes and returns a free value as its data (R203; log 8). -/
def State.completeFree (s : State) (data : Nat → ResultData) : State :=
  (s.complete (data s.draws)).setDraws (s.draws + 1)

/-- Every command first reads `fault`: while it is 1 the command completes at once with no effect (R203, R205). DESIGN
CHOICE (log 26): `fault` alone decides, also where `fault_code` does not match it or `msize` is no multiple of 8, states
R38 and U12 give no meaning. -/
def command (s : State) (whenFaulted : State → State) (body : State → Host.Outcome State Fault Refusal) :
    Host.Outcome State Fault Refusal :=
  if s.fault then .next (whenFaulted s) else body s

/-! ## Taking the fault, and reset -/

/-- `raise LOADER_SEQ`: the two writes and nothing else (60_exceptions.md R200, R201, R206). -/
def State.raiseLoaderSeq (s : State) : State := (s.setFault true).setFaultCode 0b01#2

/-- Reset: the table of 10_state.md R35 and the only thing that clears `fault` (70_reset_and_hazards.md R230,
60_exceptions.md R207). The buffer and the working registers take fresh free values; what is outside the core stays
(log 19). -/
def State.applyReset (s : State) : State :=
  { State.reset with
    work := powerOnWork (s.resets + 1)
    resets := s.resets + 1
    draws := s.draws
    src := s.src
    host := s.host }

end Sys2Proof.Machine
end

