-- ==== Sys2Proof/Machine/Operands.lean ====
section
/-! DEFINITION. Operand forms: byte order, the Word view of the buffer, the rotation, and the register roles of a step
(00_scope.md R11, R13; 20_memory.md R51 to R54; 41_engine.md R149). -/

namespace Sys2Proof.Machine

/-- Byte `j` of a Word: `w[8j+7:8j]` (00_scope.md R11). -/
def wordByte (w : Word) (j : Nat) : Byte := w.extractLsb' (8 * j) 8

/-- The Word of four bytes, the first the low-order one (20_memory.md R51). -/
def wordOfBytes (b0 b1 b2 b3 : Byte) : Word := b3 ++ b2 ++ b1 ++ b0

/-- The bytes of a Word, least significant first (20_memory.md R54). -/
def wordBytes (w : Word) : List Byte := [wordByte w 0, wordByte w 1, wordByte w 2, wordByte w 3]

/-- `M[k]`, the Word view of the buffer (20_memory.md R51). -/
def State.bufWord (s : State) (k : Nat) : Word :=
  wordOfBytes (s.bufByte (4 * k)) (s.bufByte (4 * k + 1)) (s.bufByte (4 * k + 2)) (s.bufByte (4 * k + 3))

/-- The Block `M[0..15]` (30_encoding.md R90). -/
def State.block (s : State) : List Word :=
  [s.bufWord 0, s.bufWord 1, s.bufWord 2, s.bufWord 3, s.bufWord 4, s.bufWord 5, s.bufWord 6, s.bufWord 7,
   s.bufWord 8, s.bufWord 9, s.bufWord 10, s.bufWord 11, s.bufWord 12, s.bufWord 13, s.bufWord 14, s.bufWord 15]

/-- `rotl32(x, s) = ((x * 2^s) mod 2^32) + (x div 2^(32-s))` for 1 to 31 (00_scope.md R13); for 0, which R13 leaves
out, the free value (log 10). -/
def rotl32 (x : Word) (s : BitVec 5) : Word :=
  if s = 0#5 then Config.rotlZero x
  else BitVec.ofNat 32 ((x.toNat * 2 ^ s.toNat) % 2 ^ 32 + x.toNat / 2 ^ (32 - s.toNat))

/-- Working register `w[j]` (10_state.md R22). -/
def Quad.get (q : Quad) : Nat → Word
  | 0 => q.a
  | 1 => q.b
  | 2 => q.c
  | _ => q.d

/-- `w[j] <- v`. -/
def Quad.set (q : Quad) (j : Nat) (v : Word) : Quad :=
  match j with
  | 0 => { q with a := v }
  | 1 => { q with b := v }
  | 2 => { q with c := v }
  | _ => { q with d := v }

/-- Word-wise addition of two quads (41_engine.md R158). -/
def Quad.add (x y : Quad) : Quad := ⟨add32 x.a y.a, add32 x.b y.b, add32 x.c y.c, add32 x.d y.d⟩

/-- `r = (i - 1) mod 4`, the binding of the roles at step `i` (41_engine.md R149). -/
def roleShift (i : Nat) : Nat := (i - 1) % 4

/-- The register bound to ra at step `i` (R149). -/
def roleA (i : Nat) : Nat := (4 - roleShift i) % 4

/-- The register bound to rb (R149). -/
def roleB (i : Nat) : Nat := (5 - roleShift i) % 4

/-- The register bound to rc (R149). -/
def roleC (i : Nat) : Nat := (6 - roleShift i) % 4

/-- The register bound to rd (R149). -/
def roleD (i : Nat) : Nat := (7 - roleShift i) % 4

end Sys2Proof.Machine
end

