-- ==== Sys2Proof/Machine/Engine.lean ====
section
/-! DEFINITION. The CompressionEngine: the auxiliary functions, LATCH, the four STEP kinds, CHAIN and COMPRESS
(41_engine.md). -/

namespace Sys2Proof.Machine

/-- `F(x, y, z)` (R141). -/
def auxF (x y z : Word) : Word := or32 (and32 x y) (and32 (not32 x) z)

/-- `G(x, y, z)` (R142). -/
def auxG (x y z : Word) : Word := or32 (and32 x z) (and32 y (not32 z))

/-- `H(x, y, z)` (R143). -/
def auxH (x y z : Word) : Word := xor32 (xor32 x y) z

/-- `I(x, y, z)` (R144). -/
def auxI (x y z : Word) : Word := xor32 y (or32 x (not32 z))

/-- The auxiliary function the field `fn` selects (R145). -/
def aux : AuxFn → Word → Word → Word → Word
  | .f => auxF
  | .g => auxG
  | .h => auxH
  | .i => auxI

/-- The value a step writes: `rb + rotl32(ra + AUX(rb, rc, rd) + M[k] + T[i], s)` (R151). -/
def stepValue (fn : AuxFn) (ra rb rc rd m t : Word) (sh : BitVec 5) : Word :=
  let f := aux fn rb rc rd
  let t1 := add32 ra f
  let t2 := add32 t1 m
  let t3 := add32 t2 t
  let t4 := rotl32 t3 sh
  add32 rb t4

/-- The working registers after the step with index `i` (R149, R151). -/
def Quad.stepped (q : Quad) (fn : AuxFn) (i : Nat) (m t : Word) (sh : BitVec 5) : Quad :=
  q.set (roleA i)
    (stepValue fn (q.get (roleA i)) (q.get (roleB i)) (q.get (roleC i)) (q.get (roleD i)) m t sh)

/-- The common form of a step, at the index `step` holds (R151). It runs at every index that has a sine constant,
whatever its kind (log 12); at `step` = 0 or above 64 there is none and the micro-operation is refused (log 13). -/
def engineStep (fn : AuxFn) (k : BitVec 4) (sh : BitVec 5) (s : State) : Host.Outcome State Fault Refusal :=
  match Rom.sine? s.step.toNat with
  | none => .refused (.noSuchStep s.step)
  | some t =>
    .next ((s.setWork (s.work.stepped fn s.step.toNat (s.bufWord k.toNat) t sh)).setStep (s.step + 1#7))

/-- A store entry: the step of its kind, performed only when `step` is its index (R151's precondition; log 11). -/
def entryStep (index : Nat) (fn : AuxFn) (k : BitVec 4) (sh : BitVec 5) (s : State) :
    Host.Outcome State Fault Refusal :=
  if s.step.toNat = index then engineStep fn k sh s else .refused (.notAtEntry index s.step)

/-- STEP.F (R153). -/
def execStepF (k : BitVec 4) (sh : BitVec 5) (s : State) : Host.Outcome State Fault Refusal := engineStep .f k sh s

/-- STEP.G (R154). -/
def execStepG (k : BitVec 4) (sh : BitVec 5) (s : State) : Host.Outcome State Fault Refusal := engineStep .g k sh s

/-- STEP.H (R155). -/
def execStepH (k : BitVec 4) (sh : BitVec 5) (s : State) : Host.Outcome State Fault Refusal := engineStep .h k sh s

/-- STEP.I (R156). -/
def execStepI (k : BitVec 4) (sh : BitVec 5) (s : State) : Host.Outcome State Fault Refusal := engineStep .i k sh s

/-- LATCH: `a <- A, b <- B, c <- C, d <- D, step <- 1`; precondition `step = 0` (R152). -/
def execLatch (s : State) : Host.Outcome State Fault Refusal :=
  if s.step = 0#7 then .next ((s.setWork s.digest).setStep 1#7) else .refused (.engineBusy s.step)

/-- CHAIN: the word-wise sum, `step <- 0`; precondition `step = 65` (R158). -/
def execChain (s : State) : Host.Outcome State Fault Refusal :=
  if s.step = 65#7 then .next ((s.setDigest (s.digest.add s.work)).setStep 0#7) else .refused (.notAtChain s.step)

/-- The step whose control word the store holds at `step` (R157; 30_encoding.md R83, R86). -/
def storeStep (s : State) : Host.Outcome State Fault Refusal :=
  match Rom.controlWord? s.step.toNat with
  | none => .refused (.noSuchStep s.step)
  | some w => engineStep (ctlFn w) (ctlK w) (ctlS w) s

/-- `n` steps of the control store, one after the other (R157). -/
def storeSteps : Nat → State → Host.Outcome State Fault Refusal
  | 0, s => .next s
  | n + 1, s => andThen (storeStep s) (storeSteps n)

/-- COMPRESS without its check of `fault` and its result: LATCH, STEP(1) to STEP(64), CHAIN (R140, R157). -/
def compressBlock (s : State) : Host.Outcome State Fault Refusal :=
  andThen (execLatch s) fun t => andThen (storeSteps 64 t) execChain

/-- COMPRESS (R140). -/
def execCompress (s : State) : Host.Outcome State Fault Refusal :=
  command s (fun t => t.complete .nothing)
    fun t => andThen (compressBlock t) fun u => .next (u.complete .nothing)

end Sys2Proof.Machine
end

