-- ==== Sys2Proof/Machine/ControlStore.lean ====
section
/-! DEFINITION. The 64 entries of the control store as instructions: each is the row of the schedule in 41_engine.md
R150 with its index, auxiliary function, message index and rotate amount, performed when `step` is its index. -/

namespace Sys2Proof.Machine

/-- `CW[1]`: STEP.F with k = 0, s = 7 at step 1 (R150). -/
def execCw1 (s : State) : Host.Outcome State Fault Refusal := entryStep 1 .f 0 7 s

/-- `CW[2]`: STEP.F with k = 1, s = 12 at step 2 (R150). -/
def execCw2 (s : State) : Host.Outcome State Fault Refusal := entryStep 2 .f 1 12 s

/-- `CW[3]`: STEP.F with k = 2, s = 17 at step 3 (R150). -/
def execCw3 (s : State) : Host.Outcome State Fault Refusal := entryStep 3 .f 2 17 s

/-- `CW[4]`: STEP.F with k = 3, s = 22 at step 4 (R150). -/
def execCw4 (s : State) : Host.Outcome State Fault Refusal := entryStep 4 .f 3 22 s

/-- `CW[5]`: STEP.F with k = 4, s = 7 at step 5 (R150). -/
def execCw5 (s : State) : Host.Outcome State Fault Refusal := entryStep 5 .f 4 7 s

/-- `CW[6]`: STEP.F with k = 5, s = 12 at step 6 (R150). -/
def execCw6 (s : State) : Host.Outcome State Fault Refusal := entryStep 6 .f 5 12 s

/-- `CW[7]`: STEP.F with k = 6, s = 17 at step 7 (R150). -/
def execCw7 (s : State) : Host.Outcome State Fault Refusal := entryStep 7 .f 6 17 s

/-- `CW[8]`: STEP.F with k = 7, s = 22 at step 8 (R150). -/
def execCw8 (s : State) : Host.Outcome State Fault Refusal := entryStep 8 .f 7 22 s

/-- `CW[9]`: STEP.F with k = 8, s = 7 at step 9 (R150). -/
def execCw9 (s : State) : Host.Outcome State Fault Refusal := entryStep 9 .f 8 7 s

/-- `CW[10]`: STEP.F with k = 9, s = 12 at step 10 (R150). -/
def execCw10 (s : State) : Host.Outcome State Fault Refusal := entryStep 10 .f 9 12 s

/-- `CW[11]`: STEP.F with k = 10, s = 17 at step 11 (R150). -/
def execCw11 (s : State) : Host.Outcome State Fault Refusal := entryStep 11 .f 10 17 s

/-- `CW[12]`: STEP.F with k = 11, s = 22 at step 12 (R150). -/
def execCw12 (s : State) : Host.Outcome State Fault Refusal := entryStep 12 .f 11 22 s

/-- `CW[13]`: STEP.F with k = 12, s = 7 at step 13 (R150). -/
def execCw13 (s : State) : Host.Outcome State Fault Refusal := entryStep 13 .f 12 7 s

/-- `CW[14]`: STEP.F with k = 13, s = 12 at step 14 (R150). -/
def execCw14 (s : State) : Host.Outcome State Fault Refusal := entryStep 14 .f 13 12 s

/-- `CW[15]`: STEP.F with k = 14, s = 17 at step 15 (R150). -/
def execCw15 (s : State) : Host.Outcome State Fault Refusal := entryStep 15 .f 14 17 s

/-- `CW[16]`: STEP.F with k = 15, s = 22 at step 16 (R150). -/
def execCw16 (s : State) : Host.Outcome State Fault Refusal := entryStep 16 .f 15 22 s

/-- `CW[17]`: STEP.G with k = 1, s = 5 at step 17 (R150). -/
def execCw17 (s : State) : Host.Outcome State Fault Refusal := entryStep 17 .g 1 5 s

/-- `CW[18]`: STEP.G with k = 6, s = 9 at step 18 (R150). -/
def execCw18 (s : State) : Host.Outcome State Fault Refusal := entryStep 18 .g 6 9 s

/-- `CW[19]`: STEP.G with k = 11, s = 14 at step 19 (R150). -/
def execCw19 (s : State) : Host.Outcome State Fault Refusal := entryStep 19 .g 11 14 s

/-- `CW[20]`: STEP.G with k = 0, s = 20 at step 20 (R150). -/
def execCw20 (s : State) : Host.Outcome State Fault Refusal := entryStep 20 .g 0 20 s

/-- `CW[21]`: STEP.G with k = 5, s = 5 at step 21 (R150). -/
def execCw21 (s : State) : Host.Outcome State Fault Refusal := entryStep 21 .g 5 5 s

/-- `CW[22]`: STEP.G with k = 10, s = 9 at step 22 (R150). -/
def execCw22 (s : State) : Host.Outcome State Fault Refusal := entryStep 22 .g 10 9 s

/-- `CW[23]`: STEP.G with k = 15, s = 14 at step 23 (R150). -/
def execCw23 (s : State) : Host.Outcome State Fault Refusal := entryStep 23 .g 15 14 s

/-- `CW[24]`: STEP.G with k = 4, s = 20 at step 24 (R150). -/
def execCw24 (s : State) : Host.Outcome State Fault Refusal := entryStep 24 .g 4 20 s

/-- `CW[25]`: STEP.G with k = 9, s = 5 at step 25 (R150). -/
def execCw25 (s : State) : Host.Outcome State Fault Refusal := entryStep 25 .g 9 5 s

/-- `CW[26]`: STEP.G with k = 14, s = 9 at step 26 (R150). -/
def execCw26 (s : State) : Host.Outcome State Fault Refusal := entryStep 26 .g 14 9 s

/-- `CW[27]`: STEP.G with k = 3, s = 14 at step 27 (R150). -/
def execCw27 (s : State) : Host.Outcome State Fault Refusal := entryStep 27 .g 3 14 s

/-- `CW[28]`: STEP.G with k = 8, s = 20 at step 28 (R150). -/
def execCw28 (s : State) : Host.Outcome State Fault Refusal := entryStep 28 .g 8 20 s

/-- `CW[29]`: STEP.G with k = 13, s = 5 at step 29 (R150). -/
def execCw29 (s : State) : Host.Outcome State Fault Refusal := entryStep 29 .g 13 5 s

/-- `CW[30]`: STEP.G with k = 2, s = 9 at step 30 (R150). -/
def execCw30 (s : State) : Host.Outcome State Fault Refusal := entryStep 30 .g 2 9 s

/-- `CW[31]`: STEP.G with k = 7, s = 14 at step 31 (R150). -/
def execCw31 (s : State) : Host.Outcome State Fault Refusal := entryStep 31 .g 7 14 s

/-- `CW[32]`: STEP.G with k = 12, s = 20 at step 32 (R150). -/
def execCw32 (s : State) : Host.Outcome State Fault Refusal := entryStep 32 .g 12 20 s

/-- `CW[33]`: STEP.H with k = 5, s = 4 at step 33 (R150). -/
def execCw33 (s : State) : Host.Outcome State Fault Refusal := entryStep 33 .h 5 4 s

/-- `CW[34]`: STEP.H with k = 8, s = 11 at step 34 (R150). -/
def execCw34 (s : State) : Host.Outcome State Fault Refusal := entryStep 34 .h 8 11 s

/-- `CW[35]`: STEP.H with k = 11, s = 16 at step 35 (R150). -/
def execCw35 (s : State) : Host.Outcome State Fault Refusal := entryStep 35 .h 11 16 s

/-- `CW[36]`: STEP.H with k = 14, s = 23 at step 36 (R150). -/
def execCw36 (s : State) : Host.Outcome State Fault Refusal := entryStep 36 .h 14 23 s

/-- `CW[37]`: STEP.H with k = 1, s = 4 at step 37 (R150). -/
def execCw37 (s : State) : Host.Outcome State Fault Refusal := entryStep 37 .h 1 4 s

/-- `CW[38]`: STEP.H with k = 4, s = 11 at step 38 (R150). -/
def execCw38 (s : State) : Host.Outcome State Fault Refusal := entryStep 38 .h 4 11 s

/-- `CW[39]`: STEP.H with k = 7, s = 16 at step 39 (R150). -/
def execCw39 (s : State) : Host.Outcome State Fault Refusal := entryStep 39 .h 7 16 s

/-- `CW[40]`: STEP.H with k = 10, s = 23 at step 40 (R150). -/
def execCw40 (s : State) : Host.Outcome State Fault Refusal := entryStep 40 .h 10 23 s

/-- `CW[41]`: STEP.H with k = 13, s = 4 at step 41 (R150). -/
def execCw41 (s : State) : Host.Outcome State Fault Refusal := entryStep 41 .h 13 4 s

/-- `CW[42]`: STEP.H with k = 0, s = 11 at step 42 (R150). -/
def execCw42 (s : State) : Host.Outcome State Fault Refusal := entryStep 42 .h 0 11 s

/-- `CW[43]`: STEP.H with k = 3, s = 16 at step 43 (R150). -/
def execCw43 (s : State) : Host.Outcome State Fault Refusal := entryStep 43 .h 3 16 s

/-- `CW[44]`: STEP.H with k = 6, s = 23 at step 44 (R150). -/
def execCw44 (s : State) : Host.Outcome State Fault Refusal := entryStep 44 .h 6 23 s

/-- `CW[45]`: STEP.H with k = 9, s = 4 at step 45 (R150). -/
def execCw45 (s : State) : Host.Outcome State Fault Refusal := entryStep 45 .h 9 4 s

/-- `CW[46]`: STEP.H with k = 12, s = 11 at step 46 (R150). -/
def execCw46 (s : State) : Host.Outcome State Fault Refusal := entryStep 46 .h 12 11 s

/-- `CW[47]`: STEP.H with k = 15, s = 16 at step 47 (R150). -/
def execCw47 (s : State) : Host.Outcome State Fault Refusal := entryStep 47 .h 15 16 s

/-- `CW[48]`: STEP.H with k = 2, s = 23 at step 48 (R150). -/
def execCw48 (s : State) : Host.Outcome State Fault Refusal := entryStep 48 .h 2 23 s

/-- `CW[49]`: STEP.I with k = 0, s = 6 at step 49 (R150). -/
def execCw49 (s : State) : Host.Outcome State Fault Refusal := entryStep 49 .i 0 6 s

/-- `CW[50]`: STEP.I with k = 7, s = 10 at step 50 (R150). -/
def execCw50 (s : State) : Host.Outcome State Fault Refusal := entryStep 50 .i 7 10 s

/-- `CW[51]`: STEP.I with k = 14, s = 15 at step 51 (R150). -/
def execCw51 (s : State) : Host.Outcome State Fault Refusal := entryStep 51 .i 14 15 s

/-- `CW[52]`: STEP.I with k = 5, s = 21 at step 52 (R150). -/
def execCw52 (s : State) : Host.Outcome State Fault Refusal := entryStep 52 .i 5 21 s

/-- `CW[53]`: STEP.I with k = 12, s = 6 at step 53 (R150). -/
def execCw53 (s : State) : Host.Outcome State Fault Refusal := entryStep 53 .i 12 6 s

/-- `CW[54]`: STEP.I with k = 3, s = 10 at step 54 (R150). -/
def execCw54 (s : State) : Host.Outcome State Fault Refusal := entryStep 54 .i 3 10 s

/-- `CW[55]`: STEP.I with k = 10, s = 15 at step 55 (R150). -/
def execCw55 (s : State) : Host.Outcome State Fault Refusal := entryStep 55 .i 10 15 s

/-- `CW[56]`: STEP.I with k = 1, s = 21 at step 56 (R150). -/
def execCw56 (s : State) : Host.Outcome State Fault Refusal := entryStep 56 .i 1 21 s

/-- `CW[57]`: STEP.I with k = 8, s = 6 at step 57 (R150). -/
def execCw57 (s : State) : Host.Outcome State Fault Refusal := entryStep 57 .i 8 6 s

/-- `CW[58]`: STEP.I with k = 15, s = 10 at step 58 (R150). -/
def execCw58 (s : State) : Host.Outcome State Fault Refusal := entryStep 58 .i 15 10 s

/-- `CW[59]`: STEP.I with k = 6, s = 15 at step 59 (R150). -/
def execCw59 (s : State) : Host.Outcome State Fault Refusal := entryStep 59 .i 6 15 s

/-- `CW[60]`: STEP.I with k = 13, s = 21 at step 60 (R150). -/
def execCw60 (s : State) : Host.Outcome State Fault Refusal := entryStep 60 .i 13 21 s

/-- `CW[61]`: STEP.I with k = 4, s = 6 at step 61 (R150). -/
def execCw61 (s : State) : Host.Outcome State Fault Refusal := entryStep 61 .i 4 6 s

/-- `CW[62]`: STEP.I with k = 11, s = 10 at step 62 (R150). -/
def execCw62 (s : State) : Host.Outcome State Fault Refusal := entryStep 62 .i 11 10 s

/-- `CW[63]`: STEP.I with k = 2, s = 15 at step 63 (R150). -/
def execCw63 (s : State) : Host.Outcome State Fault Refusal := entryStep 63 .i 2 15 s

/-- `CW[64]`: STEP.I with k = 9, s = 21 at step 64 (R150). -/
def execCw64 (s : State) : Host.Outcome State Fault Refusal := entryStep 64 .i 9 21 s

end Sys2Proof.Machine
end

