-- ==== Sys2Proof/Machine/Flags.lean ====
section
/-! DEFINITION. The status bit `more`. There are no arithmetic flags (10_state.md R31, R32); the other status bits, `fault`,
`fault_code` and `eod_latched`, are fields of the state. -/

namespace Sys2Proof.Machine

/-- `more`: 1 in READING and PADDING, 0 in DONE; derived, not stored (R31). -/
def State.more (s : State) : Bool :=
  match s.lstate with
  | .reading => true
  | .padding => true
  | .done => false

end Sys2Proof.Machine
end

