-- ==== Sys2Proof/Machine/Loader.lean ====
section
/-! DEFINITION. The BlockLoader: HASMORE and NEXT (40_loader.md). -/

namespace Sys2Proof.Machine

/-- HASMORE (R110). -/
def execHasmore (s : State) : Host.Outcome State Fault Refusal :=
  command s (fun t => t.completeFree fun d => .more (Config.faultedMore d))
    fun t => .next (t.complete (.more t.more))

/-- Counting and placing a chunk (R112). -/
def State.placeChunk (s : State) (bytes : List Byte) : State :=
  (s.setMsize (s.msize + BitVec.ofNat 64 (8 * bytes.length))).setBuf (Memory.writeBytes s.buf 0 bytes)

/-- The marker at `buf[n]` and zeros after it (R115). -/
def State.padFrom (s : State) (n : Nat) : State :=
  s.setBuf (Memory.writeBytes (Memory.write s.buf n Rom.marker) (n + 1) (List.replicate (63 - n) 0#8))

/-- `WriteLength`: `M[14] <- msize[31:0]`, `M[15] <- msize[63:32]` (R117). -/
def State.writeLength (s : State) : State :=
  s.setBuf (Memory.writeBytes s.buf 56
    (wordBytes (s.msize.extractLsb' 0 32) ++ wordBytes (s.msize.extractLsb' 32 32)))

/-- NEXT in READING with the answer `(n, bytes, eod)` (R112, R114 to R116, R118, R119). -/
def State.loadChunk (s : State) (bytes : List Byte) (eod : Bool) : State :=
  let placed := s.placeChunk bytes
  if bytes.length = Config.blockBytes then placed.setEodLatched eod
  else
    let padded := (placed.padFrom bytes.length).setEodLatched false
    if bytes.length ≤ Config.lastFitting then padded.writeLength.setLstate .done
    else padded.setLstate .padding

/-- NEXT in PADDING: the zero-filled block with the length (R120). -/
def State.lengthBlock (s : State) : State :=
  ((s.setBuf (Memory.writeBytes s.buf 0 (List.replicate 64 0#8))).writeLength).setLstate .done

/-- NEXT without its check of `fault` and its result: the dispatch on `lstate` (R111, R113, R121, R122). DESIGN CHOICE (log
25): in PADDING and DONE `eod_latched` is neither read nor written, also where it is 1, a state U12 gives no meaning. -/
def nextBlock (s : State) : Host.Outcome State Fault Refusal :=
  match s.lstate with
  | .done => .next s.raiseLoaderSeq
  | .padding => .next s.lengthBlock
  | .reading =>
    if s.eodLatched then .next (s.loadChunk emptyAnswer.bytes emptyAnswer.eod)
    else
      match sourceRead s.src with
      | none => .fault .sourceSilent
      | some (answer, rest) => .next ((s.setSrc rest).loadChunk answer.bytes answer.eod)

/-- NEXT's data: the Block, and none where NEXT has raised LOADER_SEQ (R111, R121; log 9). -/
def State.nextData (s : State) : ResultData := if s.fault then .nothing else .block s.block

/-- The free Block of a NEXT issued while `fault` is 1 (60_exceptions.md R203; log 8). -/
def freeBlock (d : Nat) : List Word := (List.range 16).map (Config.faultedWord d)

/-- NEXT (R111 to R122). -/
def execNext (s : State) : Host.Outcome State Fault Refusal :=
  command s (fun t => t.completeFree fun d => .block (freeBlock d))
    fun t => andThen (nextBlock t) fun u => .next (u.complete u.nextData)

end Sys2Proof.Machine
end

