-- ==== Sys2Proof/Machine/Sequencer.lean ====
section
/-! DEFINITION. The sequencer: INIT, RUN and DIGEST (42_driver.md). -/

namespace Sys2Proof.Machine

/-- INIT's writes: the constants, a fresh loader (R180, R181). -/
def State.initialise (s : State) : State :=
  (((s.setDigest initialDigest).setLstate .reading).setMsize 0#64).setEodLatched false

/-- INIT (R180). -/
def execInit (s : State) : Host.Outcome State Fault Refusal :=
  command s (fun t => t.complete .nothing) fun t => .next (t.initialise.complete .nothing)

/-- One pass of the driver's loop: NEXT, then COMPRESS (R182; ABSORB of 30_encoding.md R97). -/
def absorb (s : State) : Host.Outcome State Fault Refusal := andThen (nextBlock s) compressBlock

/-- `while lstate != DONE: NEXT; COMPRESS` (R182). The fuel covers every loop that ends, so one that uses it up has come to
full chunks without end (R183; log 4, log 17). -/
def runLoop : Nat → State → Host.Outcome State Fault Refusal
  | 0, s => if s.lstate = .done then .next s else .fault .sourceEndless
  | fuel + 1, s => if s.lstate = .done then .next s else andThen (absorb s) (runLoop fuel)

/-- How many answers of a stream come up to the next one that ends a message, that one with them; 0 for a tail without
such an answer to count. -/
def SourceTail.untilEnd : SourceTail → Nat
  | .stream _ _ (some n) => n + 1
  | .stream _ _ none => 0
  | .ended => 0
  | .silent => 0

/-- More passes than any RUN that ends makes from here: each answer still listed or counted feeds at most one, and after
the last of them one short chunk and one length block end the message (R183; log 17). -/
def State.runFuel (s : State) : Nat := s.src.pending.length + s.src.tail.untilEnd + 2

/-- RUN (R182). -/
def execRun (s : State) : Host.Outcome State Fault Refusal :=
  command s (fun t => t.complete .nothing)
    fun t => andThen (runLoop t.runFuel t) fun u => .next (u.complete .nothing)

/-- The 16 bytes of a DigestState: `out[4j + i] = S[j][8i+7:8i]` (R184; 30_encoding.md R93). -/
def Quad.bytes (q : Quad) : List Byte := wordBytes q.a ++ wordBytes q.b ++ wordBytes q.c ++ wordBytes q.d

/-- The free bytes of a DIGEST issued while `fault` is 1 (60_exceptions.md R203; log 8). -/
def freeDigest (d : Nat) : List Byte := (List.range 16).map (Config.faultedByte d)

/-- DIGEST (R184). -/
def execDigest (s : State) : Host.Outcome State Fault Refusal :=
  command s (fun t => t.completeFree fun d => .digest (freeDigest d))
    fun t => .next (t.complete (.digest t.digest.bytes))

end Sys2Proof.Machine
end

