-- ==== Sys2Proof/Machine/Dispatch.lean ====
section
/-! DEFINITION. The dispatch: one arm for each instruction, each one direct call of its meaning. -/

namespace Sys2Proof.Machine

def exec (i : Instr) (s : State) : Host.Outcome State Fault Refusal :=
  match i with
  | .init => Sys2Proof.Machine.execInit s
  | .hasmore => Sys2Proof.Machine.execHasmore s
  | .next => Sys2Proof.Machine.execNext s
  | .compress => Sys2Proof.Machine.execCompress s
  | .digest => Sys2Proof.Machine.execDigest s
  | .run => Sys2Proof.Machine.execRun s
  | .stepF k sh => Sys2Proof.Machine.execStepF k sh s
  | .stepG k sh => Sys2Proof.Machine.execStepG k sh s
  | .stepH k sh => Sys2Proof.Machine.execStepH k sh s
  | .stepI k sh => Sys2Proof.Machine.execStepI k sh s
  | .latch => Sys2Proof.Machine.execLatch s
  | .chain => Sys2Proof.Machine.execChain s
  | .cw1 => Sys2Proof.Machine.execCw1 s
  | .cw2 => Sys2Proof.Machine.execCw2 s
  | .cw3 => Sys2Proof.Machine.execCw3 s
  | .cw4 => Sys2Proof.Machine.execCw4 s
  | .cw5 => Sys2Proof.Machine.execCw5 s
  | .cw6 => Sys2Proof.Machine.execCw6 s
  | .cw7 => Sys2Proof.Machine.execCw7 s
  | .cw8 => Sys2Proof.Machine.execCw8 s
  | .cw9 => Sys2Proof.Machine.execCw9 s
  | .cw10 => Sys2Proof.Machine.execCw10 s
  | .cw11 => Sys2Proof.Machine.execCw11 s
  | .cw12 => Sys2Proof.Machine.execCw12 s
  | .cw13 => Sys2Proof.Machine.execCw13 s
  | .cw14 => Sys2Proof.Machine.execCw14 s
  | .cw15 => Sys2Proof.Machine.execCw15 s
  | .cw16 => Sys2Proof.Machine.execCw16 s
  | .cw17 => Sys2Proof.Machine.execCw17 s
  | .cw18 => Sys2Proof.Machine.execCw18 s
  | .cw19 => Sys2Proof.Machine.execCw19 s
  | .cw20 => Sys2Proof.Machine.execCw20 s
  | .cw21 => Sys2Proof.Machine.execCw21 s
  | .cw22 => Sys2Proof.Machine.execCw22 s
  | .cw23 => Sys2Proof.Machine.execCw23 s
  | .cw24 => Sys2Proof.Machine.execCw24 s
  | .cw25 => Sys2Proof.Machine.execCw25 s
  | .cw26 => Sys2Proof.Machine.execCw26 s
  | .cw27 => Sys2Proof.Machine.execCw27 s
  | .cw28 => Sys2Proof.Machine.execCw28 s
  | .cw29 => Sys2Proof.Machine.execCw29 s
  | .cw30 => Sys2Proof.Machine.execCw30 s
  | .cw31 => Sys2Proof.Machine.execCw31 s
  | .cw32 => Sys2Proof.Machine.execCw32 s
  | .cw33 => Sys2Proof.Machine.execCw33 s
  | .cw34 => Sys2Proof.Machine.execCw34 s
  | .cw35 => Sys2Proof.Machine.execCw35 s
  | .cw36 => Sys2Proof.Machine.execCw36 s
  | .cw37 => Sys2Proof.Machine.execCw37 s
  | .cw38 => Sys2Proof.Machine.execCw38 s
  | .cw39 => Sys2Proof.Machine.execCw39 s
  | .cw40 => Sys2Proof.Machine.execCw40 s
  | .cw41 => Sys2Proof.Machine.execCw41 s
  | .cw42 => Sys2Proof.Machine.execCw42 s
  | .cw43 => Sys2Proof.Machine.execCw43 s
  | .cw44 => Sys2Proof.Machine.execCw44 s
  | .cw45 => Sys2Proof.Machine.execCw45 s
  | .cw46 => Sys2Proof.Machine.execCw46 s
  | .cw47 => Sys2Proof.Machine.execCw47 s
  | .cw48 => Sys2Proof.Machine.execCw48 s
  | .cw49 => Sys2Proof.Machine.execCw49 s
  | .cw50 => Sys2Proof.Machine.execCw50 s
  | .cw51 => Sys2Proof.Machine.execCw51 s
  | .cw52 => Sys2Proof.Machine.execCw52 s
  | .cw53 => Sys2Proof.Machine.execCw53 s
  | .cw54 => Sys2Proof.Machine.execCw54 s
  | .cw55 => Sys2Proof.Machine.execCw55 s
  | .cw56 => Sys2Proof.Machine.execCw56 s
  | .cw57 => Sys2Proof.Machine.execCw57 s
  | .cw58 => Sys2Proof.Machine.execCw58 s
  | .cw59 => Sys2Proof.Machine.execCw59 s
  | .cw60 => Sys2Proof.Machine.execCw60 s
  | .cw61 => Sys2Proof.Machine.execCw61 s
  | .cw62 => Sys2Proof.Machine.execCw62 s
  | .cw63 => Sys2Proof.Machine.execCw63 s
  | .cw64 => Sys2Proof.Machine.execCw64 s

end Sys2Proof.Machine
end

