-- ==== Sys2Proof/Machine/Fetch.lean ====
section
/-! DEFINITION. What the machine performs next: a code placed at the engine, the host's next input, or the micro-operation
the round controller selects; and how a code is placed for the next step (30_encoding.md R80, R96; 41_engine.md R157;
70_reset_and_hazards.md R230, R240). -/

namespace Sys2Proof.Machine

/-- Decode and execute; a code that is no instruction is refused by name (30_encoding.md R94). -/
def perform (code : Code) (s : State) : Host.Outcome State Fault Refusal :=
  match decode code with
  | .ok i => exec i s
  | .error r => .refused (.undecodable r)

/-- The byte source with none of its listed answers left. -/
def Source.exhausted (x : Source) : Source := ⟨[], x.tail⟩

/-- A command that waits for the source for ever, or does not end, is abandoned when the host's next input is reset: it has
no further effect, and the answers it has taken are gone; how many a RUN without end has taken is a free value
(70_reset_and_hazards.md R230; log 4, log 19). -/
def unlessReset (o : Host.Outcome State Fault Refusal) (s : State) : Host.Outcome State Fault Refusal :=
  match o, s.host with
  | .fault .sourceSilent, .reset :: rest => .next ((s.setHost rest).setSrc s.src.exhausted).applyReset
  | .fault .sourceEndless, .reset :: rest =>
    .next (((s.setHost rest).setSrc (s.src.afterReads (Config.abandonedReads s.draws))).setDraws
      (s.draws + 1)).applyReset
  | o, _ => o

/-- The host's next input: a command, reset, a source; with none to come the core is idle (log 2, log 22). -/
def stepHost (s : State) : Host.Outcome State Fault Refusal :=
  match s.host with
  | [] => .next s
  | .command c :: rest => unlessReset (perform (.cmd c) (s.setHost rest)) (s.setHost rest)
  | .reset :: rest => .next (s.setHost rest).applyReset
  | .attach x :: rest => .next ((s.setHost rest).setSrc x)

/-- The micro-operation the round controller selects by `step` (41_engine.md R157). -/
def stepController (s : State) : Host.Outcome State Fault Refusal :=
  match controllerCode s.step with
  | some code => perform code s
  | none => .refused (.noSuchStep s.step)

/-- The host's next input is reset. -/
def State.resetNext (s : State) : Bool :=
  match s.host with
  | .reset :: _ => true
  | _ => false

/-- One step: a placed code first (log 15); then reset, which overrides everything (60_exceptions.md R205); then, while
`step` is not 0, the round controller, since no command starts while one is in progress (R240); else the host. -/
def stepMachine (s : State) : Host.Outcome State Fault Refusal :=
  match s.forced with
  | some code => perform code (s.setForced none)
  | none => if s.resetNext || decide (s.step = 0#7) then stepHost s else stepController s

/-- The `step` at which a control word is performed: its index in the store, or, for a word that is no entry, the first
step of its round (30_encoding.md R84; log 15). -/
def placedStep (w : BitVec 11) : Nat :=
  match storeIndex w with
  | some i => i
  | none => 16 * (w.extractLsb' 9 2).toNat + 1

/-- `s` with `code` where the next step takes it: a command at the head of the host's inputs with the engine idle, a
control word or a sequencing value at the engine with `step` as it needs. -/
def State.place (s : State) : Code → State
  | .cmd c => ((s.setForced none).setStep 0#7).setHost (.command c :: s.host)
  | .ctl w => (s.setForced (some (.ctl w))).setStep (BitVec.ofNat 7 (placedStep w))
  | .seq st => (s.setForced (some (.seq st))).setStep st

/-- `s` with the instruction of these bits placed for the next step; bits that are no code place nothing. -/
def State.placeBits (s : State) (nbits w : Nat) : State :=
  match codeOfBits nbits w with
  | .ok code => s.place code
  | .error _ => s

end Sys2Proof.Machine
end

