-- ==== Sys2Proof/Safety.lean ====
section
/-! DEFINITION. What claims are stated in: the invariant of the states between commands (10_state.md R38), what a stop
is, and the classes of instructions of the access table (10_state.md R24). -/

namespace Sys2Proof.Machine

/-- Every byte of the buffer has been written. -/
def Memory.full (m : Memory) : Prop := ∀ a, a < 64 → (Memory.read m a).isSome = true

/-- The invariant of the states between commands: R38, the counter's low bits (R27: it counts whole bytes), the
canonical form of the buffer, and that a loader past READING has filled it. -/
structure State.Inv (s : State) : Prop where
  /-- `step = 0` between commands (R38). -/
  idle : s.step = 0#7
  /-- Nothing is placed at the engine (log 15). -/
  unforced : s.forced = none
  /-- `eod_latched = 1` only in READING (R38). -/
  latch : s.eodLatched = true → s.lstate = .reading
  /-- `fault = 1` exactly when `fault_code = 1`; the codes 2 and 3 are never produced (R38; 30_encoding.md R88). -/
  code : s.faultCode = if s.fault then 0b01#2 else 0b00#2
  /-- The fault is raised in DONE and nothing changes after it (60_exceptions.md R200, R201, R203). -/
  faultDone : s.fault = true → s.lstate = .done
  /-- `msize` counts whole bytes (R27, R38). -/
  wholeBytes : s.msize.toNat % 8 = 0
  /-- The buffer's cells are in the one canonical form. -/
  wf : Memory.wf s.buf = true
  /-- NEXT writes all 64 bytes or none (40_loader.md R111). -/
  whole : s.buf = [] ∨ Memory.full s.buf
  /-- A loader in PADDING or DONE has emitted a block (40_loader.md R123). -/
  emitted : s.lstate ≠ .reading → Memory.full s.buf

/-- The outcome is a next state. -/
def Goes (o : Host.Outcome State Fault Refusal) : Prop := ∃ t, o = .next t

/-- `n` steps of the machine, stopping where one stops. -/
def runSteps : Nat → State → Host.Outcome State Fault Refusal
  | 0, s => .next s
  | n + 1, s => andThen (step s) (runSteps n)

/-- A safe run: `n` steps of which none stops. -/
def SafeRun (n : Nat) (s : State) : Prop := Goes (runSteps n s)

/-- The operations of the access table's columns (R24); a store entry is a step (30_encoding.md R87). -/
inductive Kind where
  | init
  | hasmore
  | next
  | compress
  | digest
  | run
  | latch
  | step
  | chain
deriving DecidableEq, Repr

end Sys2Proof.Machine

namespace Sys2Proof

/-- The column of the access table an instruction belongs to (10_state.md R24). -/
def Instr.kind : Instr → Machine.Kind
  | .init => .init
  | .hasmore => .hasmore
  | .next => .next
  | .compress => .compress
  | .digest => .digest
  | .run => .run
  | .latch => .latch
  | .chain => .chain
  | .stepF _ _ | .stepG _ _ | .stepH _ _ | .stepI _ _
  | .cw1 | .cw2 | .cw3 | .cw4 | .cw5 | .cw6 | .cw7 | .cw8
  | .cw9 | .cw10 | .cw11 | .cw12 | .cw13 | .cw14 | .cw15 | .cw16
  | .cw17 | .cw18 | .cw19 | .cw20 | .cw21 | .cw22 | .cw23 | .cw24
  | .cw25 | .cw26 | .cw27 | .cw28 | .cw29 | .cw30 | .cw31 | .cw32
  | .cw33 | .cw34 | .cw35 | .cw36 | .cw37 | .cw38 | .cw39 | .cw40
  | .cw41 | .cw42 | .cw43 | .cw44 | .cw45 | .cw46 | .cw47 | .cw48
  | .cw49 | .cw50 | .cw51 | .cw52 | .cw53 | .cw54 | .cw55 | .cw56
  | .cw57 | .cw58 | .cw59 | .cw60 | .cw61 | .cw62 | .cw63 | .cw64 => .step

/-- The six commands of the host (30_encoding.md R80). -/
def Instr.isCommand (i : Instr) : Bool :=
  match i.kind with
  | .init | .hasmore | .next | .compress | .digest | .run => true
  | .latch | .step | .chain => false

end Sys2Proof
end

