-- ==== Sys2Proof/Certificates/Slice0/Obligations.lean ====
section
/-! DEFINITION. The obligations: what is claimed of the machine, each from the numbered rules of spec/ that its
docstring names. Above them stands the vocabulary they are written in. A statement over every state covers states outside
10_state.md R38 too, which no run comes to and U12 gives no meaning: what it says there is the model's choice (log 13, log
14, log 25, log 26). -/

open Sys2Proof Sys2Proof.Machine

namespace Sys2Proof.Claims

/-! ## Vocabulary -/

/-- The meaning's type. -/
abbrev Answer := Host.Outcome State Fault Refusal

/-- `t` is `s` but for what a command answers to the host and the count of free values drawn. -/
def SameCore (s t : State) : Prop := t = { s with result := t.result, draws := t.draws }

/-- The round of step `i`, 0 to 3 for rounds 1 to 4 (41_engine.md R157). -/
def roundOf (i : Nat) : Nat := (i - 1) / 16

/-- The auxiliary function of step `i` (41_engine.md R145). -/
def fnOf (i : Nat) : AuxFn :=
  match roundOf i with
  | 0 => .f
  | 1 => .g
  | 2 => .h
  | _ => .i

/-- The message Word index `k(i)` by its formulas (41_engine.md R147). -/
def messageIndex (i : Nat) : Nat :=
  let j := (i - 1) % 16
  match roundOf i with
  | 0 => j
  | 1 => (1 + 5 * j) % 16
  | 2 => (5 + 3 * j) % 16
  | _ => (7 * j) % 16

/-- The rotate amounts of a round (41_engine.md R148). -/
def amounts : Nat → List Nat
  | 0 => [7, 12, 17, 22]
  | 1 => [5, 9, 14, 20]
  | 2 => [4, 11, 16, 23]
  | _ => [6, 10, 15, 21]

/-- The rotate amount `s(i)` (41_engine.md R148). -/
def amountOf (i : Nat) : Nat := (amounts (roundOf i)).getD ((i - 1) % 4) 0

/-- The equivalent shifting form of step `i`: `(p, q, u, v) <- (v, new, q, u)` with
`new = q + rotl32(p + AUX(q, u, v) + M[k] + T[i], s)` (41_engine.md R160). -/
def shift (M : Nat → Word) (i : Nat) (x : Quad) : Quad :=
  let new := x.b +
    rotl32 (x.a + aux (fnOf i) x.b x.c x.d + M (messageIndex i) + (Rom.sine? i).getD 0#32)
      (BitVec.ofNat 5 (amountOf i))
  ⟨x.d, new, x.b, x.c⟩

/-- Steps 1 to `n` in the shifting form. -/
def shifted (M : Nat → Word) : Nat → Quad → Quad
  | 0, x => x
  | n + 1, x => shift M (n + 1) (shifted M n x)

/-- `w[0..3]` seen in role order before step `i` (41_engine.md R149). -/
def inRoleOrder (i : Nat) (q : Quad) : Quad :=
  ⟨q.get (roleA i), q.get (roleB i), q.get (roleC i), q.get (roleD i)⟩

/-- NEXT issued `m` times. -/
def nexts : Nat → State → Answer
  | 0, s => .next s
  | m + 1, s => andThen (exec .next s) (nexts m)

/-- The eight bytes of a count, least significant first (20_memory.md R53; modulo 2^64 by 40_loader.md R117). -/
def countBytes (n : Nat) : List Byte := (List.range 8).map fun i => BitVec.ofNat 8 (n / 2 ^ (8 * i))

/-- A message with the marker, zeros to the length's place, and its length in bits (30_encoding.md R91). -/
def padded (msg : List Byte) : List Byte :=
  msg ++ 0x80#8 :: (List.replicate ((119 - msg.length % 64) % 64) 0#8 ++ countBytes (8 * msg.length))

/-- Word `k` of a list of bytes, little-endian; a byte past its end counts as 0 (20_memory.md R51). -/
def wordAt (bytes : List Byte) (k : Nat) : Word :=
  let byte (j : Nat) : Byte := bytes.getD (4 * k + j) 0#8
  byte 3 ++ byte 2 ++ byte 1 ++ byte 0

/-- CE, the function of COMPRESS (41_engine.md R140, R158, R160). -/
def compressed (h : Quad) (M : Nat → Word) : Quad :=
  let w := shifted M 64 h
  ⟨h.a + w.a, h.b + w.b, h.c + w.c, h.d + w.d⟩

/-- `H_m` from `H_0` = `h` over the next `m` blocks of the bytes (42_driver.md R186). -/
def chained : Nat → List Byte → Quad → Quad
  | 0, _, h => h
  | m + 1, bytes, h => chained m (bytes.drop 64) (compressed h (wordAt bytes))

/-- The MD5 state of a message (42_driver.md R186). -/
def md5 (msg : List Byte) : Quad :=
  chained ((8 * msg.length + 65 + 511) / 512) (padded msg) ⟨0x67452301#32, 0xefcdab89#32, 0x98badcfe#32, 0x10325476#32⟩

/-- The 16 bytes of a state: `out[4j + i] = S[j][8i+7:8i]` (42_driver.md R184). -/
def serialised (h : Quad) : List Byte :=
  (List.range 16).map fun n => (h.get (n / 4)).extractLsb' (8 * (n % 4)) 8

/-- The last answer of the source that matters: a short chunk, or a full one with end-of-data (20_memory.md R57). -/
def EndsMessage (a : SourceAnswer) : Prop := a.bytes.length < 64 ∨ a.eod = true

/-- The source comes to the end of a message: it lists an answer that ends one, or goes on with `(0, empty, 1)`, or with a
stream in which finitely many full chunks come before such an answer. -/
def Delivers (x : Source) : Prop :=
  x.tail = .ended ∨ (∃ id read n, x.tail = .stream id read (some n)) ∨ ∃ a ∈ x.pending, EndsMessage a

/-- A host input that is no reserved command and attaches only a source that goes on with `(0, empty, 1)`. -/
def LegalInput : HostInput → Prop
  | .command c => c.toNat ≤ 5
  | .reset => True
  | .attach x => x.tail = .ended

/-- A host input that is INIT, HASMORE, NEXT, COMPRESS or DIGEST, or reset, or attaches a source that does not fall
silent. -/
def AnsweredInput : HostInput → Prop
  | .command c => c.toNat ≤ 4
  | .reset => True
  | .attach x => x.tail ≠ .silent

/-- A row of the schedule (41_engine.md R150): the entry, its index, its function, the registers bound to ra, rb, rc,
rd (0 to 3 for a to d; the first is the one written), k, s and T[i]. -/
structure ScheduleRow where
  instr : Instr
  index : Nat
  fn : AuxFn
  ra : Nat
  rb : Nat
  rc : Nat
  rd : Nat
  k : Nat
  s : Nat
  t : Word

/-- Rows 1 to 16 of R150. -/
def scheduleRoundOne : List ScheduleRow :=
  [
    ⟨.cw1, 1, .f, 0, 1, 2, 3, 0, 7, 0xd76aa478#32⟩,
    ⟨.cw2, 2, .f, 3, 0, 1, 2, 1, 12, 0xe8c7b756#32⟩,
    ⟨.cw3, 3, .f, 2, 3, 0, 1, 2, 17, 0x242070db#32⟩,
    ⟨.cw4, 4, .f, 1, 2, 3, 0, 3, 22, 0xc1bdceee#32⟩,
    ⟨.cw5, 5, .f, 0, 1, 2, 3, 4, 7, 0xf57c0faf#32⟩,
    ⟨.cw6, 6, .f, 3, 0, 1, 2, 5, 12, 0x4787c62a#32⟩,
    ⟨.cw7, 7, .f, 2, 3, 0, 1, 6, 17, 0xa8304613#32⟩,
    ⟨.cw8, 8, .f, 1, 2, 3, 0, 7, 22, 0xfd469501#32⟩,
    ⟨.cw9, 9, .f, 0, 1, 2, 3, 8, 7, 0x698098d8#32⟩,
    ⟨.cw10, 10, .f, 3, 0, 1, 2, 9, 12, 0x8b44f7af#32⟩,
    ⟨.cw11, 11, .f, 2, 3, 0, 1, 10, 17, 0xffff5bb1#32⟩,
    ⟨.cw12, 12, .f, 1, 2, 3, 0, 11, 22, 0x895cd7be#32⟩,
    ⟨.cw13, 13, .f, 0, 1, 2, 3, 12, 7, 0x6b901122#32⟩,
    ⟨.cw14, 14, .f, 3, 0, 1, 2, 13, 12, 0xfd987193#32⟩,
    ⟨.cw15, 15, .f, 2, 3, 0, 1, 14, 17, 0xa679438e#32⟩,
    ⟨.cw16, 16, .f, 1, 2, 3, 0, 15, 22, 0x49b40821#32⟩
  ]

/-- Rows 17 to 32 of R150. -/
def scheduleRoundTwo : List ScheduleRow :=
  [
    ⟨.cw17, 17, .g, 0, 1, 2, 3, 1, 5, 0xf61e2562#32⟩,
    ⟨.cw18, 18, .g, 3, 0, 1, 2, 6, 9, 0xc040b340#32⟩,
    ⟨.cw19, 19, .g, 2, 3, 0, 1, 11, 14, 0x265e5a51#32⟩,
    ⟨.cw20, 20, .g, 1, 2, 3, 0, 0, 20, 0xe9b6c7aa#32⟩,
    ⟨.cw21, 21, .g, 0, 1, 2, 3, 5, 5, 0xd62f105d#32⟩,
    ⟨.cw22, 22, .g, 3, 0, 1, 2, 10, 9, 0x02441453#32⟩,
    ⟨.cw23, 23, .g, 2, 3, 0, 1, 15, 14, 0xd8a1e681#32⟩,
    ⟨.cw24, 24, .g, 1, 2, 3, 0, 4, 20, 0xe7d3fbc8#32⟩,
    ⟨.cw25, 25, .g, 0, 1, 2, 3, 9, 5, 0x21e1cde6#32⟩,
    ⟨.cw26, 26, .g, 3, 0, 1, 2, 14, 9, 0xc33707d6#32⟩,
    ⟨.cw27, 27, .g, 2, 3, 0, 1, 3, 14, 0xf4d50d87#32⟩,
    ⟨.cw28, 28, .g, 1, 2, 3, 0, 8, 20, 0x455a14ed#32⟩,
    ⟨.cw29, 29, .g, 0, 1, 2, 3, 13, 5, 0xa9e3e905#32⟩,
    ⟨.cw30, 30, .g, 3, 0, 1, 2, 2, 9, 0xfcefa3f8#32⟩,
    ⟨.cw31, 31, .g, 2, 3, 0, 1, 7, 14, 0x676f02d9#32⟩,
    ⟨.cw32, 32, .g, 1, 2, 3, 0, 12, 20, 0x8d2a4c8a#32⟩
  ]

/-- Rows 33 to 48 of R150. -/
def scheduleRoundThree : List ScheduleRow :=
  [
    ⟨.cw33, 33, .h, 0, 1, 2, 3, 5, 4, 0xfffa3942#32⟩,
    ⟨.cw34, 34, .h, 3, 0, 1, 2, 8, 11, 0x8771f681#32⟩,
    ⟨.cw35, 35, .h, 2, 3, 0, 1, 11, 16, 0x6d9d6122#32⟩,
    ⟨.cw36, 36, .h, 1, 2, 3, 0, 14, 23, 0xfde5380c#32⟩,
    ⟨.cw37, 37, .h, 0, 1, 2, 3, 1, 4, 0xa4beea44#32⟩,
    ⟨.cw38, 38, .h, 3, 0, 1, 2, 4, 11, 0x4bdecfa9#32⟩,
    ⟨.cw39, 39, .h, 2, 3, 0, 1, 7, 16, 0xf6bb4b60#32⟩,
    ⟨.cw40, 40, .h, 1, 2, 3, 0, 10, 23, 0xbebfbc70#32⟩,
    ⟨.cw41, 41, .h, 0, 1, 2, 3, 13, 4, 0x289b7ec6#32⟩,
    ⟨.cw42, 42, .h, 3, 0, 1, 2, 0, 11, 0xeaa127fa#32⟩,
    ⟨.cw43, 43, .h, 2, 3, 0, 1, 3, 16, 0xd4ef3085#32⟩,
    ⟨.cw44, 44, .h, 1, 2, 3, 0, 6, 23, 0x04881d05#32⟩,
    ⟨.cw45, 45, .h, 0, 1, 2, 3, 9, 4, 0xd9d4d039#32⟩,
    ⟨.cw46, 46, .h, 3, 0, 1, 2, 12, 11, 0xe6db99e5#32⟩,
    ⟨.cw47, 47, .h, 2, 3, 0, 1, 15, 16, 0x1fa27cf8#32⟩,
    ⟨.cw48, 48, .h, 1, 2, 3, 0, 2, 23, 0xc4ac5665#32⟩
  ]

/-- Rows 49 to 64 of R150. -/
def scheduleRoundFour : List ScheduleRow :=
  [
    ⟨.cw49, 49, .i, 0, 1, 2, 3, 0, 6, 0xf4292244#32⟩,
    ⟨.cw50, 50, .i, 3, 0, 1, 2, 7, 10, 0x432aff97#32⟩,
    ⟨.cw51, 51, .i, 2, 3, 0, 1, 14, 15, 0xab9423a7#32⟩,
    ⟨.cw52, 52, .i, 1, 2, 3, 0, 5, 21, 0xfc93a039#32⟩,
    ⟨.cw53, 53, .i, 0, 1, 2, 3, 12, 6, 0x655b59c3#32⟩,
    ⟨.cw54, 54, .i, 3, 0, 1, 2, 3, 10, 0x8f0ccc92#32⟩,
    ⟨.cw55, 55, .i, 2, 3, 0, 1, 10, 15, 0xffeff47d#32⟩,
    ⟨.cw56, 56, .i, 1, 2, 3, 0, 1, 21, 0x85845dd1#32⟩,
    ⟨.cw57, 57, .i, 0, 1, 2, 3, 8, 6, 0x6fa87e4f#32⟩,
    ⟨.cw58, 58, .i, 3, 0, 1, 2, 15, 10, 0xfe2ce6e0#32⟩,
    ⟨.cw59, 59, .i, 2, 3, 0, 1, 6, 15, 0xa3014314#32⟩,
    ⟨.cw60, 60, .i, 1, 2, 3, 0, 13, 21, 0x4e0811a1#32⟩,
    ⟨.cw61, 61, .i, 0, 1, 2, 3, 4, 6, 0xf7537e82#32⟩,
    ⟨.cw62, 62, .i, 3, 0, 1, 2, 11, 10, 0xbd3af235#32⟩,
    ⟨.cw63, 63, .i, 2, 3, 0, 1, 2, 15, 0x2ad7d2bb#32⟩,
    ⟨.cw64, 64, .i, 1, 2, 3, 0, 9, 21, 0xeb86d391#32⟩
  ]

/-- The complete schedule (R150). -/
def schedule : List ScheduleRow := scheduleRoundOne ++ scheduleRoundTwo ++ scheduleRoundThree ++ scheduleRoundFour

end Sys2Proof.Claims

open Sys2Proof.Claims

/-! ## Encoding -/

/-- Decode and encode agree: every well-formed instruction is read back from its code, with its operands (30_encoding.md
R80, R83, R85, R87). -/
def Obligations.DecodeOfEncode : Prop :=
  ∀ i : Instr, i.wf = true → decode (encode i) = .ok i

/-- Every word of 11 bits is the code of exactly one well-formed instruction, the one it decodes to: all values of `fn`
and `k` are used, and no word has two meanings (30_encoding.md R83, R94; the spelling of store words is log 11). -/
def Obligations.ControlWordHasOneMeaning : Prop :=
  ∀ w : BitVec 11, ∃ i : Instr, decode (.ctl w) = .ok i ∧ i.wf = true ∧ encode i = .ctl w ∧
    ∀ j : Instr, j.wf = true → encode j = .ctl w → j = i

/-- The six command codes, and the two reserved ones refused by name and never a no-op (30_encoding.md R80, R94). -/
def Obligations.CommandCodes : Prop :=
  decode (.cmd 0b000#3) = .ok .init ∧ decode (.cmd 0b001#3) = .ok .hasmore ∧ decode (.cmd 0b010#3) = .ok .next ∧
  decode (.cmd 0b011#3) = .ok .compress ∧ decode (.cmd 0b100#3) = .ok .digest ∧ decode (.cmd 0b101#3) = .ok .run ∧
  ∀ c : BitVec 3, 6 ≤ c.toNat → ∀ (s : State) (rest : List HostInput),
    s.forced = none → s.step = 0#7 → s.host = .command c :: rest →
    step s = .refused (.undecodable (.reservedCommand c))

/-- A few words decode to what they stand for: the fields of the worked decodings of 30_encoding.md R85 and vector V-X1. That
a store word decodes to its CW row and any other to its STEP kind is the model's choice, log 11; that `decodeTableWord`
reads a command from one byte is the model's choice, log 18. -/
def Obligations.WorkedWords : Prop :=
  decode (.ctl 0x36e#11) = .ok .cw19 ∧ ctlFn 0x36e#11 = .g ∧ ctlK 0x36e#11 = 11#4 ∧ ctlS 0x36e#11 = 14#5 ∧
  decode (.ctl 0x007#11) = .ok .cw1 ∧ decode (.ctl 0x5d7#11) = .ok .cw36 ∧ decode (.ctl 0x735#11) = .ok .cw64 ∧
  decode (.ctl 0b00_0011_00111#11) = .ok (.stepF 3#4 7#5) ∧ decode (.ctl 0b10_0000_00001#11) = .ok (.stepH 0#4 1#5) ∧
  decodeTableWord 8 0b101 = some .run ∧ decodeTableWord 8 0b110 = none

/-- The control store is the encoding of the schedule: for every step its word's fields are the function of its round,
the index formula of its round, which runs through 0 to 15 in each round, and the amount of its round and position
(41_engine.md R147, R148; 30_encoding.md R84). -/
def Obligations.ControlStoreIsSchedule : Prop :=
  (∀ i : Nat, 1 ≤ i → i ≤ 64 → ∃ w, Rom.controlWord? i = some w ∧ ctlFn w = fnOf i ∧
    (ctlK w).toNat = messageIndex i ∧ (ctlS w).toNat = amountOf i ∧ (w.extractLsb' 9 2).toNat = roundOf i) ∧
  (∀ r k : Nat, r < 4 → k < 16 → ∃ j, j < 16 ∧ messageIndex (16 * r + j + 1) = k)

/-! ## Arithmetic and operand forms -/

/-- The auxiliary functions by their formulas (41_engine.md R141 to R144), and `G(x, y, z) = F(z, x, y)` (R142). -/
def Obligations.AuxiliaryFormulas : Prop :=
  ∀ x y z : Word,
    aux .f x y z = (x &&& y) ||| (~~~x &&& z) ∧ aux .g x y z = (x &&& z) ||| (y &&& ~~~z) ∧
    aux .h x y z = x ^^^ y ^^^ z ∧ aux .i x y z = y ^^^ (x ||| ~~~z) ∧ aux .g x y z = aux .f z x y

/-- The truth table of the four functions, the same at every bit position (41_engine.md R145). -/
def Obligations.AuxiliaryTruthTable : Prop :=
  ∀ (x y z : Word) (j : Nat), j < 32 →
    (aux .f x y z).getLsbD j = (if x.getLsbD j then y.getLsbD j else z.getLsbD j) ∧
    (aux .g x y z).getLsbD j = (if z.getLsbD j then x.getLsbD j else y.getLsbD j) ∧
    (aux .h x y z).getLsbD j = ((x.getLsbD j != y.getLsbD j) != z.getLsbD j) ∧
    (aux .i x y z).getLsbD j = (y.getLsbD j != (x.getLsbD j || !(z.getLsbD j)))

/-- Rotation by 1 to 31 is circular: the value is the formula's, and bit `j` goes to bit `(j + s) mod 32`; and only the
sixteen amounts of the schedule occur in the control store (00_scope.md R13). -/
def Obligations.RotationIsCircular : Prop :=
  (∀ (x : Word) (s : BitVec 5), 1 ≤ s.toNat →
    (rotl32 x s).toNat = (x.toNat * 2 ^ s.toNat) % 2 ^ 32 + x.toNat / 2 ^ (32 - s.toNat) ∧
    ∀ j : Nat, j < 32 → (rotl32 x s).getLsbD ((j + s.toNat) % 32) = x.getLsbD j) ∧
  ∀ (i : Nat) (w : BitVec 11), Rom.controlWord? i = some w →
    (ctlS w).toNat ∈ [4, 5, 6, 7, 9, 10, 11, 12, 14, 15, 16, 17, 20, 21, 22, 23]

/-- The roles of a step: the table of 41_engine.md R149, and that they come round after four steps. -/
def Obligations.RegisterRoles : Prop :=
  (∀ i : Nat, 1 ≤ i → (i - 1) % 4 = 0 → (roleA i, roleB i, roleC i, roleD i) = (0, 1, 2, 3)) ∧
  (∀ i : Nat, 1 ≤ i → (i - 1) % 4 = 1 → (roleA i, roleB i, roleC i, roleD i) = (3, 0, 1, 2)) ∧
  (∀ i : Nat, 1 ≤ i → (i - 1) % 4 = 2 → (roleA i, roleB i, roleC i, roleD i) = (2, 3, 0, 1)) ∧
  (∀ i : Nat, 1 ≤ i → (i - 1) % 4 = 3 → (roleA i, roleB i, roleC i, roleD i) = (1, 2, 3, 0))

/-- The Word view of the buffer is little-endian, and a byte write to `buf[j]` changes bits `8(j mod 4) + 7` to
`8(j mod 4)` of `M[j div 4]`, which take the byte's bits, and nothing else (20_memory.md R51). -/
def Obligations.WordViewIsLittleEndian : Prop :=
  (∀ (s : State) (k : Nat), k < 16 → (s.bufWord k).toNat =
    (s.bufByte (4 * k)).toNat + 2 ^ 8 * (s.bufByte (4 * k + 1)).toNat +
      2 ^ 16 * (s.bufByte (4 * k + 2)).toNat + 2 ^ 24 * (s.bufByte (4 * k + 3)).toNat) ∧
  (∀ (s : State) (j : Nat) (v : Byte), j < 64 → ∀ (k b : Nat), k < 16 → b < 32 →
    ((s.setBuf (Memory.write s.buf j v)).bufWord k).getLsbD b =
      if k = j / 4 ∧ b / 8 = j % 4 then v.getLsbD (b % 8) else (s.bufWord k).getLsbD b) ∧
  (∀ (s : State) (j a : Nat) (v : Byte), a ≠ j →
    (s.setBuf (Memory.write s.buf j v)).bufByte a = s.bufByte a)

/-! ## The loader -/

/-- HASMORE with `fault` clear answers `lstate != DONE` and changes nothing but the host's result; with `fault` set it
completes without effect (40_loader.md R110). -/
def Obligations.HasmoreAnswers : Prop :=
  ∀ s : State,
    (s.fault = false → exec .hasmore s =
      .next { s with result := some ⟨false, s.faultCode, .more (decide (s.lstate ≠ .done))⟩ }) ∧
    (s.fault = true → ∃ t, exec .hasmore s = .next t ∧ SameCore s t)

/-- NEXT in READING with a full chunk: the 64 message bytes, `msize` up by 512, `eod_latched` takes `eod`, READING stays,
one answer taken, the Block returned, nothing else changed (40_loader.md R112, R114). -/
def Obligations.NextFullChunk : Prop :=
  ∀ (s : State) (a : SourceAnswer) (rest : Source), s.fault = false → s.lstate = .reading → s.eodLatched = false →
    sourceRead s.src = some (a, rest) → a.bytes.length = 64 →
    ∃ t, exec .next s = .next t ∧ (∀ j, j < 64 → Memory.read t.buf j = a.bytes[j]?) ∧
      t = { s with
        buf := t.buf
        msize := s.msize + 512#64
        eodLatched := a.eod
        src := rest
        result := some ⟨false, s.faultCode, .block t.block⟩ }

/-- NEXT in READING with a chunk of at most 55 bytes: message, marker, zeros, length in one block, and DONE, whatever
`eod` says (40_loader.md R112, R115 to R118; 30_encoding.md R91). -/
def Obligations.NextShortChunkFits : Prop :=
  ∀ (s : State) (a : SourceAnswer) (rest : Source), s.fault = false → s.lstate = .reading → s.eodLatched = false →
    sourceRead s.src = some (a, rest) → a.bytes.length ≤ 55 →
    ∃ t, exec .next s = .next t ∧
      (∀ j, j < 64 → Memory.read t.buf j =
        if j < a.bytes.length then a.bytes[j]?
        else if j = a.bytes.length then some 0x80#8
        else if j < 56 then some 0#8
        else some (t.msize.extractLsb' (8 * (j - 56)) 8)) ∧
      t = { s with
        buf := t.buf
        lstate := .done
        msize := s.msize + BitVec.ofNat 64 (8 * a.bytes.length)
        src := rest
        result := some ⟨false, s.faultCode, .block t.block⟩ }

/-- NEXT in READING with a chunk of 56 to 63 bytes: message, marker, zeros, no length, and PADDING (40_loader.md R112,
R115, R116, R119; 30_encoding.md R91). -/
def Obligations.NextShortChunkSpills : Prop :=
  ∀ (s : State) (a : SourceAnswer) (rest : Source), s.fault = false → s.lstate = .reading → s.eodLatched = false →
    sourceRead s.src = some (a, rest) → 56 ≤ a.bytes.length → a.bytes.length ≤ 63 →
    ∃ t, exec .next s = .next t ∧
      (∀ j, j < 64 → Memory.read t.buf j =
        if j < a.bytes.length then a.bytes[j]?
        else if j = a.bytes.length then some 0x80#8
        else some 0#8) ∧
      t = { s with
        buf := t.buf
        lstate := .padding
        msize := s.msize + BitVec.ofNat 64 (8 * a.bytes.length)
        src := rest
        result := some ⟨false, s.faultCode, .block t.block⟩ }

/-- NEXT in PADDING: 56 zero bytes and the length, DONE, no source read, `msize` unchanged (40_loader.md R120, R117).
That it is so with `eod_latched` set as well, a state U12 gives no meaning, is the model's choice, log 25. -/
def Obligations.NextLengthBlock : Prop :=
  ∀ s : State, s.fault = false → s.lstate = .padding →
    ∃ t, exec .next s = .next t ∧
      (∀ j, j < 64 → Memory.read t.buf j =
        if j < 56 then some 0#8 else some (s.msize.extractLsb' (8 * (j - 56)) 8)) ∧
      t = { s with
        buf := t.buf
        lstate := .done
        result := some ⟨false, s.faultCode, .block t.block⟩ }

/-- NEXT in DONE raises LOADER_SEQ: `fault` and `fault_code`, and nothing else is changed; no Block is returned
(60_exceptions.md R201; 40_loader.md R121). That it is so with `eod_latched` set as well, a state U12 gives no meaning, is
the model's choice, log 25. -/
def Obligations.NextInDoneRaises : Prop :=
  ∀ s : State, s.fault = false → s.lstate = .done →
    ∃ data, (∀ ws, data ≠ .block ws) ∧
      exec .next s = .next { s with
        fault := true
        faultCode := 0b01#2
        result := some ⟨true, 0b01#2, data⟩ }

/-- With `eod_latched` NEXT in READING asks the source nothing and goes exactly as if it had answered `(0, empty, 1)`
(40_loader.md R113). -/
def Obligations.NextAfterLatchedEnd : Prop :=
  ∀ (s : State) (e : SourceAnswer), s.fault = false → s.lstate = .reading → s.eodLatched = true →
    e.bytes = [] → e.eod = true →
    exec .next s =
      exec .next { s with eodLatched := false, src := { s.src with pending := e :: s.src.pending } } ∧
    ∃ t, exec .next s = .next t ∧ t.src = s.src ∧ t.lstate = .done

/-- The source's answers come in order, then, as the source is, `(0, empty, 1)` for ever, or a stream under no law but
`n <= 64`, or none at all; and a NEXT whose read is never answered has no step (20_memory.md R57, R60; the source's form
is log 3, the stop log 4). -/
def Obligations.SourceAnswersInOrder : Prop :=
  (∀ (a : SourceAnswer) (l : List SourceAnswer) (x : SourceTail), sourceRead ⟨a :: l, x⟩ = some (a, ⟨l, x⟩)) ∧
  (∃ e : SourceAnswer, e.bytes = [] ∧ e.eod = true ∧ sourceRead ⟨[], .ended⟩ = some (e, ⟨[], .ended⟩)) ∧
  (∀ id read : Nat, ∃ a : SourceAnswer, a.bytes.length = 64 ∧ a.eod = false ∧
    sourceRead ⟨[], .stream id read none⟩ = some (a, ⟨[], .stream id (read + 1) none⟩) ∧
    ∀ n, sourceRead ⟨[], .stream id read (some (n + 1))⟩ = some (a, ⟨[], .stream id (read + 1) (some n)⟩)) ∧
  (∀ id read : Nat, ∃ (a : SourceAnswer) (full : Option Nat), EndsMessage a ∧
    sourceRead ⟨[], .stream id read (some 0)⟩ = some (a, ⟨[], .stream id (read + 1) full⟩)) ∧
  (∀ s : State, s.fault = false → s.lstate = .reading → s.eodLatched = false → s.src = ⟨[], .silent⟩ →
    exec .next s = .fault .sourceSilent)

/-- At most one source read in each NEXT, and none in PADDING, in DONE, with the latch or with `fault` set
(20_memory.md R62; 40_loader.md R123, R127). -/
def Obligations.NextReadsAtMostOnce : Prop :=
  ∀ s t : State, exec .next s = .next t →
    (t.src = s.src ∨ ∃ a, sourceRead s.src = some (a, t.src)) ∧
    (s.fault = true ∨ s.lstate ≠ .reading ∨ s.eodLatched = true → t.src = s.src)

/-- A NEXT that completes without fault has written every one of the 64 bytes and no other, and every Word it returns is the Word
view of what it has written (40_loader.md R111; 10_state.md R39). -/
def Obligations.NextWritesWholeBlock : Prop :=
  ∀ s t : State, s.fault = false → exec .next s = .next t → t.fault = false →
    Memory.full t.buf ∧ (∀ a, 64 ≤ a → Memory.read t.buf a = Memory.read s.buf a) ∧
    t.result = some ⟨false, s.faultCode, .block ((List.range 16).map t.bufWord)⟩

/-- The transition table of `lstate` under NEXT, with `more` after (40_loader.md R123). -/
def Obligations.LoaderTransitions : Prop :=
  ∀ s t : State, s.fault = false → exec .next s = .next t →
    (s.lstate = .done → t.lstate = .done ∧ t.more = false ∧ t.fault = true) ∧
    (s.lstate = .padding → t.lstate = .done ∧ t.more = false ∧ t.fault = false) ∧
    (s.lstate = .reading → s.eodLatched = true → t.lstate = .done ∧ t.more = false ∧ t.fault = false) ∧
    (s.lstate = .reading → s.eodLatched = false → ∀ a rest, sourceRead s.src = some (a, rest) → t.fault = false ∧
      (a.bytes.length = 64 → t.lstate = .reading ∧ t.more = true) ∧
      (a.bytes.length ≤ 55 → t.lstate = .done ∧ t.more = false) ∧
      (56 ≤ a.bytes.length → a.bytes.length ≤ 63 → t.lstate = .padding ∧ t.more = true))

/-- The block whose NEXT sets DONE ends in the 64-bit length, low Word first (40_loader.md R117, R125;
20_memory.md R53). That it is so with `eod_latched` set
outside READING as well is the model's choice, log 25. -/
def Obligations.LastBlockHoldsLength : Prop :=
  ∀ s t : State, s.fault = false → s.lstate ≠ .done → exec .next s = .next t → t.lstate = .done →
    t.bufWord 14 = t.msize.extractLsb' 0 32 ∧ t.bufWord 15 = t.msize.extractLsb' 32 32

/-- The padding invariant: a message of `L` bytes in full chunks and a short one takes exactly
`ceil((8L + 65) / 512)` NEXTs to DONE, and `msize` has counted its `8L` bits (40_loader.md R124). -/
def Obligations.BlockCount : Prop :=
  ∀ (s : State) (full : List SourceAnswer) (last : SourceAnswer) (rest : List SourceAnswer),
    s.fault = false → s.lstate = .reading → s.eodLatched = false → s.src.pending = full ++ last :: rest →
    (∀ a ∈ full, a.bytes.length = 64 ∧ a.eod = false) → EndsMessage last →
    let L := 64 * full.length + last.bytes.length
    let m := (8 * L + 65 + 511) / 512
    (∃ t, nexts m s = .next t ∧ t.lstate = .done ∧ t.fault = false ∧ t.src = ⟨rest, s.src.tail⟩ ∧
      t.msize = s.msize + BitVec.ofNat 64 (8 * L)) ∧
    ∀ j, j < m → ∃ u, nexts j s = .next u ∧ u.lstate ≠ .done ∧ u.fault = false

/-! ## The engine -/

/-- LATCH copies the DigestState into the working registers and sets `step` to 1, at `step` 0 (41_engine.md R152). -/
def Obligations.LatchCopiesState : Prop :=
  ∀ s : State, s.step = 0#7 →
    exec .latch s = .next { s with
      work := ⟨s.digest.a, s.digest.b, s.digest.c, s.digest.d⟩
      step := 1#7 }

/-- A step of any kind at `step` = i, 1 to 64: ra takes `rb + rotl32(ra + AUX(rb, rc, rd) + M[k] + T[i], s)`, the three
other working registers and everything else stay, `step` goes to i + 1 (41_engine.md R151, R153 to R156; that a kind
runs at the indices of other rounds too is log 12). -/
def Obligations.StepKindsWriteOneRegister : Prop :=
  ∀ (s : State) (k : BitVec 4) (sh : BitVec 5), 1 ≤ s.step.toNat → s.step.toNat ≤ 64 →
    ∀ p ∈ [(Instr.stepF k sh, AuxFn.f), (.stepG k sh, .g), (.stepH k sh, .h), (.stepI k sh, .i)],
    let i := s.step.toNat
    ∃ t T, exec p.1 s = .next t ∧ Rom.sine? i = some T ∧
      t.work.get (roleA i) = s.work.get (roleB i) +
        rotl32 (s.work.get (roleA i) +
          aux p.2 (s.work.get (roleB i)) (s.work.get (roleC i)) (s.work.get (roleD i)) + s.bufWord k.toNat + T) sh ∧
      t.work.get (roleB i) = s.work.get (roleB i) ∧ t.work.get (roleC i) = s.work.get (roleC i) ∧
      t.work.get (roleD i) = s.work.get (roleD i) ∧
      t = { s with work := t.work, step := BitVec.ofNat 7 (i + 1) }

/-- Every row of the schedule: at its index the entry `CW[i]` writes the register of the row's first role from the row's
roles, k, s and T, leaves the other three and everything else, and goes on to the next index (41_engine.md R150, R151;
30_encoding.md R85). -/
def Obligations.StoreEntriesFollowSchedule : Prop :=
  schedule.length = 64 ∧
  ∀ r ∈ schedule, ∀ s : State, s.step.toNat = r.index →
    Rom.controlWord? r.index = some (ctlWord r.fn (BitVec.ofNat 4 r.k) (BitVec.ofNat 5 r.s)) ∧
    ∃ t, exec r.instr s = .next t ∧
      t.work = s.work.set r.ra (s.work.get r.rb +
        rotl32 (s.work.get r.ra + aux r.fn (s.work.get r.rb) (s.work.get r.rc) (s.work.get r.rd) + s.bufWord r.k + r.t)
          (BitVec.ofNat 5 r.s)) ∧
      t = { s with work := t.work, step := BitVec.ofNat 7 (r.index + 1) }

/-- CHAIN adds the working registers to the DigestState Word by Word, keeps them, and sets `step` to 0, at `step` 65
(41_engine.md R158). -/
def Obligations.ChainAddsEntryState : Prop :=
  ∀ s : State, s.step = 65#7 →
    exec .chain s = .next { s with
      digest := ⟨s.digest.a + s.work.a, s.digest.b + s.work.b, s.digest.c + s.work.c, s.digest.d + s.work.d⟩
      step := 0#7 }

/-- Where a micro-operation's precondition on `step` does not hold it is refused, by name, and so are COMPRESS and a step of
the controller above 65 (41_engine.md R151, R152, R158; 30_encoding.md R86; U12). The refusals are the model's choice: of
LATCH, CHAIN, a STEP kind and the controller log 13; of a store entry at another index, a `step` R38 allows, log 11; of
COMPRESS at `step` other than 0, which R140 defines for every state with `fault` = 0, log 14. -/
def Obligations.MicroOperationsNeedTheirStep : Prop :=
  (∀ s : State, s.step ≠ 0#7 → exec .latch s = .refused (.engineBusy s.step)) ∧
  (∀ s : State, s.step ≠ 0#7 → s.fault = false → exec .compress s = .refused (.engineBusy s.step)) ∧
  (∀ s : State, s.step ≠ 65#7 → exec .chain s = .refused (.notAtChain s.step)) ∧
  (∀ (s : State) (k : BitVec 4) (sh : BitVec 5), s.step.toNat = 0 ∨ 65 ≤ s.step.toNat →
    ∀ i ∈ [Instr.stepF k sh, .stepG k sh, .stepH k sh, .stepI k sh], exec i s = .refused (.noSuchStep s.step)) ∧
  (∀ r ∈ schedule, ∀ s : State, s.step.toNat ≠ r.index → exec r.instr s = .refused (.notAtEntry r.index s.step)) ∧
  (∀ s : State, s.forced = none → s.resetNext = false → 66 ≤ s.step.toNat →
    step s = .refused (.noSuchStep s.step))

/-- The shifting form is the step: `(p, q, u, v)` in role order goes to `(v, new, q, u)` (41_engine.md R160). -/
def Obligations.ShiftingFormIsStep : Prop :=
  ∀ (s : State) (w : BitVec 11), Rom.controlWord? s.step.toNat = some w →
    ∃ t, storeStep s = .next t ∧
      inRoleOrder (s.step.toNat + 1) t.work = shift s.bufWord s.step.toNat (inRoleOrder s.step.toNat s.work)

/-- COMPRESS with `fault` clear and the engine idle is the function of 41_engine.md R140 and R160: 64 steps of the
shifting form from the entry state, then the sum with the entry state (R158); it changes the DigestState and the working
registers and nothing else. -/
def Obligations.CompressIsShiftingForm : Prop :=
  ∀ s : State, s.fault = false → s.step = 0#7 →
    let w := shifted s.bufWord 64 s.digest
    exec .compress s = .next { s with
      digest := ⟨s.digest.a + w.a, s.digest.b + w.b, s.digest.c + w.c, s.digest.d + w.d⟩
      work := w
      result := some ⟨false, s.faultCode, .nothing⟩ }

/-- The two levels of description agree: LATCH and then 65 steps of the round controller come to the state COMPRESS comes
to at once, but for the answer to the host (00_scope.md R8; 41_engine.md R157). -/
def Obligations.RoundControllerRefinesCompress : Prop :=
  ∀ s : State, s.fault = false → s.step = 0#7 → s.forced = none → s.resetNext = false →
    ∃ t u, exec .latch s = .next t ∧ runSteps 65 t = .next u ∧
      exec .compress s = .next (u.complete .nothing)

/-- The worked example of COMPRESS: the block of the empty message from the initial constants (41_engine.md R140, R158;
vector V-C1). -/
def Obligations.CompressKnownAnswer : Prop :=
  ∀ s : State, s.fault = false → s.step = 0#7 →
    s.digest = ⟨0x67452301#32, 0xefcdab89#32, 0x98badcfe#32, 0x10325476#32⟩ → s.bufWord 0 = 0x00000080#32 →
    (∀ k, 1 ≤ k → k ≤ 15 → s.bufWord k = 0#32) →
    ∃ t, exec .compress s = .next t ∧
      t.digest = ⟨0xd98c1dd4#32, 0x04b2008f#32, 0x980980e9#32, 0x7e42f8ec#32⟩

/-- COMPRESS is a function of A, B, C, D and the 16 Words alone: two states that agree on them come to the same
DigestState, whatever the loader, the source and the working registers hold (41_engine.md R161). -/
def Obligations.CompressDeterminedByBlock : Prop :=
  ∀ s t s' t' : State, s.fault = false → t.fault = false → s.digest = t.digest →
    (∀ k, k < 16 → s.bufWord k = t.bufWord k) →
    exec .compress s = .next s' → exec .compress t = .next t' → s'.digest = t'.digest ∧ s'.work = t'.work

/-! ## The sequencer -/

/-- INIT with `fault` clear: the constants, READING, `msize` and `eod_latched` 0, `more` 1, nothing else, and DIGEST
after it gives the constants' bytes; with `fault` set INIT completes without effect (42_driver.md R180). -/
def Obligations.InitStartsMessage : Prop :=
  (∀ s : State, s.fault = true → ∃ t, exec .init s = .next t ∧ SameCore s t) ∧
  ∀ s : State, s.fault = false →
    let t := { s with
      digest := ⟨0x67452301#32, 0xefcdab89#32, 0x98badcfe#32, 0x10325476#32⟩
      lstate := .reading
      msize := 0#64
      eodLatched := false
      result := some ⟨false, s.faultCode, .nothing⟩ }
    exec .init s = .next t ∧ t.more = true ∧
    exec .digest t = .next { t with
      result := some ⟨false, s.faultCode, .digest
        [0x01#8, 0x23#8, 0x45#8, 0x67#8, 0x89#8, 0xab#8, 0xcd#8, 0xef#8,
         0xfe#8, 0xdc#8, 0xba#8, 0x98#8, 0x76#8, 0x54#8, 0x32#8, 0x10#8]⟩ }

/-- DIGEST with `fault` clear returns `out[4j + i] = S[j][8i+7:8i]`, 16 bytes, and changes nothing but the host's
result (42_driver.md R184; 30_encoding.md R93). -/
def Obligations.DigestSerialises : Prop :=
  ∀ s : State, s.fault = false → ∃ out : List Byte, out.length = 16 ∧
    exec .digest s = .next { s with result := some ⟨false, s.faultCode, .digest out⟩ } ∧
    ∀ j i : Nat, j < 4 → i < 4 → out[4 * j + i]? = some ((s.digest.get j).extractLsb' (8 * i) 8)

/-- RUN ends exactly when the source comes to the end of the message, and then in DONE with no fault and the engine idle;
else it waits for the source for ever, or is given full chunks without end (42_driver.md R182, R183; the source's form is
log 3, the two stops log 4). -/
def Obligations.RunEndsWithSource : Prop :=
  ∀ s : State, s.fault = false → s.step = 0#7 →
    (s.lstate ≠ .reading ∨ s.eodLatched = true ∨ Delivers s.src →
      ∃ t, exec .run s = .next t ∧ t.lstate = .done ∧ t.more = false ∧ t.fault = false ∧ t.step = 0#7 ∧
        t.result = some ⟨false, s.faultCode, .nothing⟩) ∧
    (s.lstate = .reading → s.eodLatched = false → ¬ Delivers s.src →
      (s.src.tail = .silent → exec .run s = .fault .sourceSilent) ∧
      (s.src.tail ≠ .silent → exec .run s = .fault .sourceEndless))

/-- RUN is the driver's loop: in DONE it does nothing, else it is NEXT, COMPRESS and RUN again (42_driver.md R182). -/
def Obligations.RunIsLoop : Prop :=
  ∀ s : State, s.fault = false → s.step = 0#7 →
    (s.lstate = .done → exec .run s = .next { s with result := some ⟨false, s.faultCode, .nothing⟩ }) ∧
    (s.lstate ≠ .done →
      exec .run s = andThen (exec .next s) fun t => andThen (exec .compress t) (exec .run))

/-- The function computed: RUN on a core freshly initialised, against a source that delivers full chunks and then one that
ends the message, leaves the MD5 state of the bytes delivered, and DIGEST then returns its serialisation (42_driver.md
R185, R186). -/
def Obligations.RunComputesDigest : Prop :=
  ∀ (s : State) (full : List SourceAnswer) (last : SourceAnswer) (rest : List SourceAnswer),
    s.fault = false → s.step = 0#7 → s.lstate = .reading → s.eodLatched = false → s.msize = 0#64 →
    s.digest = ⟨0x67452301#32, 0xefcdab89#32, 0x98badcfe#32, 0x10325476#32⟩ →
    s.src.pending = full ++ last :: rest →
    (∀ a ∈ full, a.bytes.length = 64 ∧ a.eod = false) → EndsMessage last →
    let msg := ((full ++ [last]).map (·.bytes)).flatten
    ∃ t, exec .run s = .next t ∧ t.digest = md5 msg ∧ t.lstate = .done ∧ t.src = ⟨rest, s.src.tail⟩ ∧
      exec .digest t = .next { t with result := some ⟨false, s.faultCode, .digest (serialised (md5 msg))⟩ }

/-! ## Faults, reset, the whole machine -/

/-- While `fault` is 1 every command completes with no effect but its answer, which says `fault` = 1 and the code
unchanged (60_exceptions.md R203; nothing is said of the data, U4). -/
def Obligations.FaultedCommandsDoNothing : Prop :=
  ∀ (i : Instr) (s : State), i.isCommand = true → s.fault = true →
    ∃ t data, exec i s = .next t ∧ SameCore s t ∧ t.result = some ⟨true, s.faultCode, data⟩

/-- NEXT in DONE raises the fault, with its code and nothing else; no other instruction raises it, in no other state, RUN
never (60_exceptions.md R200). That it is so with `eod_latched` set
outside READING as well is the model's choice, log 25. -/
def Obligations.OnlyNextInDoneFaults : Prop :=
  (∀ (i : Instr) (s t : State), s.fault = false → exec i s = .next t → t.fault = true →
    i = .next ∧ s.lstate = .done ∧ t.faultCode = 0b01#2) ∧
  ∀ s : State, s.fault = false → s.lstate = .done →
    ∃ t, exec .next s = .next t ∧ t = { s with fault := true, faultCode := 0b01#2, result := t.result }

/-- Once raised, the fault stays until reset: a step that is no reset keeps it (60_exceptions.md R203, R207). -/
def Obligations.FaultIsSticky : Prop :=
  ∀ s t : State, s.Inv → s.fault = true → step s = .next t → s.resetNext = false →
    t.fault = true ∧ t.faultCode = s.faultCode ∧ t.digest = s.digest ∧ t.work = s.work ∧ t.buf = s.buf ∧
    t.lstate = s.lstate ∧ t.msize = s.msize ∧ t.eodLatched = s.eodLatched

/-- The access table's columns: which operations write which state, over all instructions; a row that an instruction
does not write is left as it was, every byte of the buffer among it (10_state.md R24). -/
def Obligations.AccessTable : Prop :=
  ∀ (i : Instr) (s t : State), exec i s = .next t →
    (i.kind ∉ [Kind.init, .chain, .compress, .run] → t.digest = s.digest) ∧
    (i.kind ∉ [Kind.latch, .step, .compress, .run] → t.work = s.work) ∧
    (i.kind ∉ [Kind.next, .run] → t.buf = s.buf ∧ ∀ a, t.bufByte a = s.bufByte a) ∧
    (∀ a, 64 ≤ a → t.bufByte a = s.bufByte a) ∧
    (i.kind ∉ [Kind.init, .next, .run] →
      t.lstate = s.lstate ∧ t.msize = s.msize ∧ t.eodLatched = s.eodLatched) ∧
    (i.kind ∉ [Kind.latch, .step, .chain] → t.step = s.step) ∧
    (i.kind ≠ .next → t.fault = s.fault ∧ t.faultCode = s.faultCode) ∧
    (i.kind ∉ [Kind.next, .run] → t.src = s.src) ∧
    (i.isCommand = false → t.result = s.result ∧ t.draws = s.draws) ∧
    t.host = s.host ∧ t.forced = s.forced ∧ t.resets = s.resets

/-- The state after reset, where the spec gives a value (10_state.md R35): the constants, READING, the counters and bits 0,
`more` 1. -/
def Obligations.ResetState : Prop :=
  State.reset.digest = ⟨0x67452301#32, 0xefcdab89#32, 0x98badcfe#32, 0x10325476#32⟩ ∧
  State.reset.lstate = .reading ∧ State.reset.msize = 0#64 ∧ State.reset.eodLatched = false ∧
  State.reset.step = 0#7 ∧ State.reset.fault = false ∧ State.reset.faultCode = 0#2 ∧ State.reset.more = true

/-- Reset applied in any state, whatever it was doing, comes to the state after reset (70_reset_and_hazards.md R230); what
is outside the core is left (log 19). -/
def Obligations.ResetFromAnywhere : Prop :=
  ∀ (s : State) (rest : List HostInput), s.forced = none → s.host = .reset :: rest →
    ∃ t, step s = .next t ∧ t.digest = State.reset.digest ∧ t.lstate = .reading ∧ t.msize = 0#64 ∧
      t.eodLatched = false ∧ t.step = 0#7 ∧ t.fault = false ∧ t.faultCode = 0#2 ∧ t.buf = [] ∧
      t.host = rest ∧ t.src = s.src

/-- A command that waits for the source, or does not end, is abandoned when reset is applied, with no further effect but the
answers it has taken; with no reset next, a waiting NEXT has no step (70_reset_and_hazards.md R230; 20_memory.md R60; log
4, log 19). -/
def Obligations.ResetAbandonsWaitingCommand : Prop :=
  ∀ (s : State) (rest : List HostInput), s.forced = none → s.step = 0#7 →
    (∀ (c : BitVec 3) (i : Instr), s.host = .command c :: .reset :: rest → decode (.cmd c) = .ok i →
      exec i { s with host := .reset :: rest } = .fault .sourceSilent →
      ∃ t, step s = .next t ∧ t.digest = State.reset.digest ∧ t.lstate = .reading ∧ t.msize = 0#64 ∧
        t.eodLatched = false ∧ t.step = 0#7 ∧ t.fault = false ∧ t.faultCode = 0#2 ∧ t.buf = [] ∧
        t.host = rest ∧ t.src = ⟨[], s.src.tail⟩) ∧
    (∀ (c : BitVec 3) (i : Instr), s.host = .command c :: .reset :: rest → decode (.cmd c) = .ok i →
      exec i { s with host := .reset :: rest } = .fault .sourceEndless →
      ∃ t n, step s = .next t ∧ t.digest = State.reset.digest ∧ t.lstate = .reading ∧ t.msize = 0#64 ∧
        t.eodLatched = false ∧ t.step = 0#7 ∧ t.fault = false ∧ t.faultCode = 0#2 ∧ t.buf = [] ∧
        t.host = rest ∧ t.src = s.src.afterReads n) ∧
    (s.host = .command 0b010#3 :: rest → (∀ r, rest ≠ .reset :: r) → s.fault = false → s.lstate = .reading →
      s.eodLatched = false → s.src = ⟨[], .silent⟩ → step s = .fault .sourceSilent)

/-- The invariant holds after reset (10_state.md R38). -/
def Obligations.ResetHasInvariant : Prop := State.reset.Inv

/-- Every step keeps the invariant of the states between commands, from every state that has it (10_state.md R38;
30_encoding.md R88; 40_loader.md R111). -/
def Obligations.StepKeepsInvariant : Prop :=
  ∀ s t : State, s.Inv → step s = .next t → t.Inv

/-- `step` never holds 66 to 127, nor leaves the controller's range inside a COMPRESS: no step of the machine with nothing
placed at the engine takes it out of 0 to 65 (10_state.md R29). -/
def Obligations.StepCounterStaysInRange : Prop :=
  ∀ s t : State, s.forced = none → s.step.toNat ≤ 65 → step s = .next t → t.step.toNat ≤ 65

/-- A run of legal host inputs never stops when every source goes on with `(0, empty, 1)`: from any state with the
invariant, however long. For a source that goes on with a stream see AnsweredRunsNeverStop and RunEndsWithSource; the
source's form is log 3 (70_reset_and_hazards.md R240; 40_loader.md R112; 41_engine.md R140; 42_driver.md R183). -/
def Obligations.LegalRunsNeverStop : Prop :=
  ∀ (n : Nat) (s : State), s.Inv → s.src.tail = .ended → (∀ x ∈ s.host, LegalInput x) → SafeRun n s

/-- A step runs the decoded instruction: a command at the head of the host's inputs, with that input taken; the
micro-operation the round controller selects; and with no input the core is idle (30_encoding.md R80, R96; 41_engine.md
R157; 70_reset_and_hazards.md R240; log 2, log 22). -/
def Obligations.StepRunsDecoded : Prop :=
  (∀ (s : State) (c : BitVec 3) (rest : List HostInput) (i : Instr), s.forced = none → s.step = 0#7 →
    s.host = .command c :: rest → decode (.cmd c) = .ok i →
    (∀ r, rest ≠ .reset :: r) ∨ (exec i { s with host := rest } ≠ .fault .sourceSilent ∧
      exec i { s with host := rest } ≠ .fault .sourceEndless) →
    step s = exec i { s with host := rest }) ∧
  (∀ (s : State) (code : Code) (i : Instr), s.forced = none → s.step ≠ 0#7 → s.resetNext = false →
    controllerCode s.step = some code → decode code = .ok i → step s = exec i s) ∧
  (∀ s : State, s.forced = none → s.step = 0#7 → s.host = [] → step s = .next s) ∧
  (∀ (s : State) (x : Source) (rest : List HostInput), s.forced = none → s.step = 0#7 → s.host = .attach x :: rest →
    step s = .next { s with host := rest, src := x })

/-- An instruction placed for the next step is the one that step runs (the model's own placing: log 15, log 18). -/
def Obligations.PlacedInstructionRuns : Prop :=
  ∀ (s : State) (nbits w : Nat) (i : Instr), s.host = [] → decodeTableWord nbits w = some i →
    ∃ st : BitVec 7, step (s.withFetchWord nbits w) = exec i { s with forced := none, step := st } ∧
      (i.isCommand = true → st = 0#7) ∧ (i = .latch → st = 0#7) ∧ (i = .chain → st = 65#7) ∧
      (i.kind = .step → 1 ≤ st.toNat ∧ st.toNat ≤ 64 ∧
        ∀ r ∈ schedule, r.instr = i → st.toNat = r.index)

/-- The loader's rules are total for every answer: while no source falls silent, whatever it answers, no run of commands
other than RUN stops, from any state with the invariant, however long (20_memory.md R57; 70_reset_and_hazards.md R242; the
source's form is log 3). -/
def Obligations.AnsweredRunsNeverStop : Prop :=
  ∀ (n : Nat) (s : State), s.Inv → s.src.tail ≠ .silent → (∀ x ∈ s.host, AnsweredInput x) → SafeRun n s
end

