-- ==== Sys2Proof/Laws/State.lean ====
section
/-! SUPPORT. One lemma for each field of the state and each named update, so that no later proof unfolds a record update. -/

namespace Sys2Proof.Machine

/-! ### `State.setDigest` -/

section
variable (s : State) (x : Quad)
@[simp] theorem setDigest_digest : (s.setDigest x).digest = x := rfl
@[simp] theorem setDigest_work : (s.setDigest x).work = s.work := rfl
@[simp] theorem setDigest_buf : (s.setDigest x).buf = s.buf := rfl
@[simp] theorem setDigest_lstate : (s.setDigest x).lstate = s.lstate := rfl
@[simp] theorem setDigest_msize : (s.setDigest x).msize = s.msize := rfl
@[simp] theorem setDigest_eodLatched : (s.setDigest x).eodLatched = s.eodLatched := rfl
@[simp] theorem setDigest_step : (s.setDigest x).step = s.step := rfl
@[simp] theorem setDigest_fault : (s.setDigest x).fault = s.fault := rfl
@[simp] theorem setDigest_faultCode : (s.setDigest x).faultCode = s.faultCode := rfl
@[simp] theorem setDigest_src : (s.setDigest x).src = s.src := rfl
@[simp] theorem setDigest_host : (s.setDigest x).host = s.host := rfl
@[simp] theorem setDigest_forced : (s.setDigest x).forced = s.forced := rfl
@[simp] theorem setDigest_result : (s.setDigest x).result = s.result := rfl
@[simp] theorem setDigest_resets : (s.setDigest x).resets = s.resets := rfl
@[simp] theorem setDigest_draws : (s.setDigest x).draws = s.draws := rfl
end

/-! ### `State.setWork` -/

section
variable (s : State) (x : Quad)
@[simp] theorem setWork_digest : (s.setWork x).digest = s.digest := rfl
@[simp] theorem setWork_work : (s.setWork x).work = x := rfl
@[simp] theorem setWork_buf : (s.setWork x).buf = s.buf := rfl
@[simp] theorem setWork_lstate : (s.setWork x).lstate = s.lstate := rfl
@[simp] theorem setWork_msize : (s.setWork x).msize = s.msize := rfl
@[simp] theorem setWork_eodLatched : (s.setWork x).eodLatched = s.eodLatched := rfl
@[simp] theorem setWork_step : (s.setWork x).step = s.step := rfl
@[simp] theorem setWork_fault : (s.setWork x).fault = s.fault := rfl
@[simp] theorem setWork_faultCode : (s.setWork x).faultCode = s.faultCode := rfl
@[simp] theorem setWork_src : (s.setWork x).src = s.src := rfl
@[simp] theorem setWork_host : (s.setWork x).host = s.host := rfl
@[simp] theorem setWork_forced : (s.setWork x).forced = s.forced := rfl
@[simp] theorem setWork_result : (s.setWork x).result = s.result := rfl
@[simp] theorem setWork_resets : (s.setWork x).resets = s.resets := rfl
@[simp] theorem setWork_draws : (s.setWork x).draws = s.draws := rfl
end

/-! ### `State.setBuf` -/

section
variable (s : State) (x : Memory)
@[simp] theorem setBuf_digest : (s.setBuf x).digest = s.digest := rfl
@[simp] theorem setBuf_work : (s.setBuf x).work = s.work := rfl
@[simp] theorem setBuf_buf : (s.setBuf x).buf = x := rfl
@[simp] theorem setBuf_lstate : (s.setBuf x).lstate = s.lstate := rfl
@[simp] theorem setBuf_msize : (s.setBuf x).msize = s.msize := rfl
@[simp] theorem setBuf_eodLatched : (s.setBuf x).eodLatched = s.eodLatched := rfl
@[simp] theorem setBuf_step : (s.setBuf x).step = s.step := rfl
@[simp] theorem setBuf_fault : (s.setBuf x).fault = s.fault := rfl
@[simp] theorem setBuf_faultCode : (s.setBuf x).faultCode = s.faultCode := rfl
@[simp] theorem setBuf_src : (s.setBuf x).src = s.src := rfl
@[simp] theorem setBuf_host : (s.setBuf x).host = s.host := rfl
@[simp] theorem setBuf_forced : (s.setBuf x).forced = s.forced := rfl
@[simp] theorem setBuf_result : (s.setBuf x).result = s.result := rfl
@[simp] theorem setBuf_resets : (s.setBuf x).resets = s.resets := rfl
@[simp] theorem setBuf_draws : (s.setBuf x).draws = s.draws := rfl
end

/-! ### `State.setLstate` -/

section
variable (s : State) (x : LoaderState)
@[simp] theorem setLstate_digest : (s.setLstate x).digest = s.digest := rfl
@[simp] theorem setLstate_work : (s.setLstate x).work = s.work := rfl
@[simp] theorem setLstate_buf : (s.setLstate x).buf = s.buf := rfl
@[simp] theorem setLstate_lstate : (s.setLstate x).lstate = x := rfl
@[simp] theorem setLstate_msize : (s.setLstate x).msize = s.msize := rfl
@[simp] theorem setLstate_eodLatched : (s.setLstate x).eodLatched = s.eodLatched := rfl
@[simp] theorem setLstate_step : (s.setLstate x).step = s.step := rfl
@[simp] theorem setLstate_fault : (s.setLstate x).fault = s.fault := rfl
@[simp] theorem setLstate_faultCode : (s.setLstate x).faultCode = s.faultCode := rfl
@[simp] theorem setLstate_src : (s.setLstate x).src = s.src := rfl
@[simp] theorem setLstate_host : (s.setLstate x).host = s.host := rfl
@[simp] theorem setLstate_forced : (s.setLstate x).forced = s.forced := rfl
@[simp] theorem setLstate_result : (s.setLstate x).result = s.result := rfl
@[simp] theorem setLstate_resets : (s.setLstate x).resets = s.resets := rfl
@[simp] theorem setLstate_draws : (s.setLstate x).draws = s.draws := rfl
end

/-! ### `State.setMsize` -/

section
variable (s : State) (x : Count)
@[simp] theorem setMsize_digest : (s.setMsize x).digest = s.digest := rfl
@[simp] theorem setMsize_work : (s.setMsize x).work = s.work := rfl
@[simp] theorem setMsize_buf : (s.setMsize x).buf = s.buf := rfl
@[simp] theorem setMsize_lstate : (s.setMsize x).lstate = s.lstate := rfl
@[simp] theorem setMsize_msize : (s.setMsize x).msize = x := rfl
@[simp] theorem setMsize_eodLatched : (s.setMsize x).eodLatched = s.eodLatched := rfl
@[simp] theorem setMsize_step : (s.setMsize x).step = s.step := rfl
@[simp] theorem setMsize_fault : (s.setMsize x).fault = s.fault := rfl
@[simp] theorem setMsize_faultCode : (s.setMsize x).faultCode = s.faultCode := rfl
@[simp] theorem setMsize_src : (s.setMsize x).src = s.src := rfl
@[simp] theorem setMsize_host : (s.setMsize x).host = s.host := rfl
@[simp] theorem setMsize_forced : (s.setMsize x).forced = s.forced := rfl
@[simp] theorem setMsize_result : (s.setMsize x).result = s.result := rfl
@[simp] theorem setMsize_resets : (s.setMsize x).resets = s.resets := rfl
@[simp] theorem setMsize_draws : (s.setMsize x).draws = s.draws := rfl
end

/-! ### `State.setEodLatched` -/

section
variable (s : State) (x : Bool)
@[simp] theorem setEodLatched_digest : (s.setEodLatched x).digest = s.digest := rfl
@[simp] theorem setEodLatched_work : (s.setEodLatched x).work = s.work := rfl
@[simp] theorem setEodLatched_buf : (s.setEodLatched x).buf = s.buf := rfl
@[simp] theorem setEodLatched_lstate : (s.setEodLatched x).lstate = s.lstate := rfl
@[simp] theorem setEodLatched_msize : (s.setEodLatched x).msize = s.msize := rfl
@[simp] theorem setEodLatched_eodLatched : (s.setEodLatched x).eodLatched = x := rfl
@[simp] theorem setEodLatched_step : (s.setEodLatched x).step = s.step := rfl
@[simp] theorem setEodLatched_fault : (s.setEodLatched x).fault = s.fault := rfl
@[simp] theorem setEodLatched_faultCode : (s.setEodLatched x).faultCode = s.faultCode := rfl
@[simp] theorem setEodLatched_src : (s.setEodLatched x).src = s.src := rfl
@[simp] theorem setEodLatched_host : (s.setEodLatched x).host = s.host := rfl
@[simp] theorem setEodLatched_forced : (s.setEodLatched x).forced = s.forced := rfl
@[simp] theorem setEodLatched_result : (s.setEodLatched x).result = s.result := rfl
@[simp] theorem setEodLatched_resets : (s.setEodLatched x).resets = s.resets := rfl
@[simp] theorem setEodLatched_draws : (s.setEodLatched x).draws = s.draws := rfl
end

/-! ### `State.setStep` -/

section
variable (s : State) (x : BitVec 7)
@[simp] theorem setStep_digest : (s.setStep x).digest = s.digest := rfl
@[simp] theorem setStep_work : (s.setStep x).work = s.work := rfl
@[simp] theorem setStep_buf : (s.setStep x).buf = s.buf := rfl
@[simp] theorem setStep_lstate : (s.setStep x).lstate = s.lstate := rfl
@[simp] theorem setStep_msize : (s.setStep x).msize = s.msize := rfl
@[simp] theorem setStep_eodLatched : (s.setStep x).eodLatched = s.eodLatched := rfl
@[simp] theorem setStep_step : (s.setStep x).step = x := rfl
@[simp] theorem setStep_fault : (s.setStep x).fault = s.fault := rfl
@[simp] theorem setStep_faultCode : (s.setStep x).faultCode = s.faultCode := rfl
@[simp] theorem setStep_src : (s.setStep x).src = s.src := rfl
@[simp] theorem setStep_host : (s.setStep x).host = s.host := rfl
@[simp] theorem setStep_forced : (s.setStep x).forced = s.forced := rfl
@[simp] theorem setStep_result : (s.setStep x).result = s.result := rfl
@[simp] theorem setStep_resets : (s.setStep x).resets = s.resets := rfl
@[simp] theorem setStep_draws : (s.setStep x).draws = s.draws := rfl
end

/-! ### `State.setFault` -/

section
variable (s : State) (x : Bool)
@[simp] theorem setFault_digest : (s.setFault x).digest = s.digest := rfl
@[simp] theorem setFault_work : (s.setFault x).work = s.work := rfl
@[simp] theorem setFault_buf : (s.setFault x).buf = s.buf := rfl
@[simp] theorem setFault_lstate : (s.setFault x).lstate = s.lstate := rfl
@[simp] theorem setFault_msize : (s.setFault x).msize = s.msize := rfl
@[simp] theorem setFault_eodLatched : (s.setFault x).eodLatched = s.eodLatched := rfl
@[simp] theorem setFault_step : (s.setFault x).step = s.step := rfl
@[simp] theorem setFault_fault : (s.setFault x).fault = x := rfl
@[simp] theorem setFault_faultCode : (s.setFault x).faultCode = s.faultCode := rfl
@[simp] theorem setFault_src : (s.setFault x).src = s.src := rfl
@[simp] theorem setFault_host : (s.setFault x).host = s.host := rfl
@[simp] theorem setFault_forced : (s.setFault x).forced = s.forced := rfl
@[simp] theorem setFault_result : (s.setFault x).result = s.result := rfl
@[simp] theorem setFault_resets : (s.setFault x).resets = s.resets := rfl
@[simp] theorem setFault_draws : (s.setFault x).draws = s.draws := rfl
end

/-! ### `State.setFaultCode` -/

section
variable (s : State) (x : BitVec 2)
@[simp] theorem setFaultCode_digest : (s.setFaultCode x).digest = s.digest := rfl
@[simp] theorem setFaultCode_work : (s.setFaultCode x).work = s.work := rfl
@[simp] theorem setFaultCode_buf : (s.setFaultCode x).buf = s.buf := rfl
@[simp] theorem setFaultCode_lstate : (s.setFaultCode x).lstate = s.lstate := rfl
@[simp] theorem setFaultCode_msize : (s.setFaultCode x).msize = s.msize := rfl
@[simp] theorem setFaultCode_eodLatched : (s.setFaultCode x).eodLatched = s.eodLatched := rfl
@[simp] theorem setFaultCode_step : (s.setFaultCode x).step = s.step := rfl
@[simp] theorem setFaultCode_fault : (s.setFaultCode x).fault = s.fault := rfl
@[simp] theorem setFaultCode_faultCode : (s.setFaultCode x).faultCode = x := rfl
@[simp] theorem setFaultCode_src : (s.setFaultCode x).src = s.src := rfl
@[simp] theorem setFaultCode_host : (s.setFaultCode x).host = s.host := rfl
@[simp] theorem setFaultCode_forced : (s.setFaultCode x).forced = s.forced := rfl
@[simp] theorem setFaultCode_result : (s.setFaultCode x).result = s.result := rfl
@[simp] theorem setFaultCode_resets : (s.setFaultCode x).resets = s.resets := rfl
@[simp] theorem setFaultCode_draws : (s.setFaultCode x).draws = s.draws := rfl
end

/-! ### `State.setSrc` -/

section
variable (s : State) (x : Source)
@[simp] theorem setSrc_digest : (s.setSrc x).digest = s.digest := rfl
@[simp] theorem setSrc_work : (s.setSrc x).work = s.work := rfl
@[simp] theorem setSrc_buf : (s.setSrc x).buf = s.buf := rfl
@[simp] theorem setSrc_lstate : (s.setSrc x).lstate = s.lstate := rfl
@[simp] theorem setSrc_msize : (s.setSrc x).msize = s.msize := rfl
@[simp] theorem setSrc_eodLatched : (s.setSrc x).eodLatched = s.eodLatched := rfl
@[simp] theorem setSrc_step : (s.setSrc x).step = s.step := rfl
@[simp] theorem setSrc_fault : (s.setSrc x).fault = s.fault := rfl
@[simp] theorem setSrc_faultCode : (s.setSrc x).faultCode = s.faultCode := rfl
@[simp] theorem setSrc_src : (s.setSrc x).src = x := rfl
@[simp] theorem setSrc_host : (s.setSrc x).host = s.host := rfl
@[simp] theorem setSrc_forced : (s.setSrc x).forced = s.forced := rfl
@[simp] theorem setSrc_result : (s.setSrc x).result = s.result := rfl
@[simp] theorem setSrc_resets : (s.setSrc x).resets = s.resets := rfl
@[simp] theorem setSrc_draws : (s.setSrc x).draws = s.draws := rfl
end

/-! ### `State.setHost` -/

section
variable (s : State) (x : List HostInput)
@[simp] theorem setHost_digest : (s.setHost x).digest = s.digest := rfl
@[simp] theorem setHost_work : (s.setHost x).work = s.work := rfl
@[simp] theorem setHost_buf : (s.setHost x).buf = s.buf := rfl
@[simp] theorem setHost_lstate : (s.setHost x).lstate = s.lstate := rfl
@[simp] theorem setHost_msize : (s.setHost x).msize = s.msize := rfl
@[simp] theorem setHost_eodLatched : (s.setHost x).eodLatched = s.eodLatched := rfl
@[simp] theorem setHost_step : (s.setHost x).step = s.step := rfl
@[simp] theorem setHost_fault : (s.setHost x).fault = s.fault := rfl
@[simp] theorem setHost_faultCode : (s.setHost x).faultCode = s.faultCode := rfl
@[simp] theorem setHost_src : (s.setHost x).src = s.src := rfl
@[simp] theorem setHost_host : (s.setHost x).host = x := rfl
@[simp] theorem setHost_forced : (s.setHost x).forced = s.forced := rfl
@[simp] theorem setHost_result : (s.setHost x).result = s.result := rfl
@[simp] theorem setHost_resets : (s.setHost x).resets = s.resets := rfl
@[simp] theorem setHost_draws : (s.setHost x).draws = s.draws := rfl
end

/-! ### `State.setForced` -/

section
variable (s : State) (x : Option Code)
@[simp] theorem setForced_digest : (s.setForced x).digest = s.digest := rfl
@[simp] theorem setForced_work : (s.setForced x).work = s.work := rfl
@[simp] theorem setForced_buf : (s.setForced x).buf = s.buf := rfl
@[simp] theorem setForced_lstate : (s.setForced x).lstate = s.lstate := rfl
@[simp] theorem setForced_msize : (s.setForced x).msize = s.msize := rfl
@[simp] theorem setForced_eodLatched : (s.setForced x).eodLatched = s.eodLatched := rfl
@[simp] theorem setForced_step : (s.setForced x).step = s.step := rfl
@[simp] theorem setForced_fault : (s.setForced x).fault = s.fault := rfl
@[simp] theorem setForced_faultCode : (s.setForced x).faultCode = s.faultCode := rfl
@[simp] theorem setForced_src : (s.setForced x).src = s.src := rfl
@[simp] theorem setForced_host : (s.setForced x).host = s.host := rfl
@[simp] theorem setForced_forced : (s.setForced x).forced = x := rfl
@[simp] theorem setForced_result : (s.setForced x).result = s.result := rfl
@[simp] theorem setForced_resets : (s.setForced x).resets = s.resets := rfl
@[simp] theorem setForced_draws : (s.setForced x).draws = s.draws := rfl
end

/-! ### `State.setResult` -/

section
variable (s : State) (x : Option Result)
@[simp] theorem setResult_digest : (s.setResult x).digest = s.digest := rfl
@[simp] theorem setResult_work : (s.setResult x).work = s.work := rfl
@[simp] theorem setResult_buf : (s.setResult x).buf = s.buf := rfl
@[simp] theorem setResult_lstate : (s.setResult x).lstate = s.lstate := rfl
@[simp] theorem setResult_msize : (s.setResult x).msize = s.msize := rfl
@[simp] theorem setResult_eodLatched : (s.setResult x).eodLatched = s.eodLatched := rfl
@[simp] theorem setResult_step : (s.setResult x).step = s.step := rfl
@[simp] theorem setResult_fault : (s.setResult x).fault = s.fault := rfl
@[simp] theorem setResult_faultCode : (s.setResult x).faultCode = s.faultCode := rfl
@[simp] theorem setResult_src : (s.setResult x).src = s.src := rfl
@[simp] theorem setResult_host : (s.setResult x).host = s.host := rfl
@[simp] theorem setResult_forced : (s.setResult x).forced = s.forced := rfl
@[simp] theorem setResult_result : (s.setResult x).result = x := rfl
@[simp] theorem setResult_resets : (s.setResult x).resets = s.resets := rfl
@[simp] theorem setResult_draws : (s.setResult x).draws = s.draws := rfl
end

/-! ### `State.setResets` -/

section
variable (s : State) (x : Nat)
@[simp] theorem setResets_digest : (s.setResets x).digest = s.digest := rfl
@[simp] theorem setResets_work : (s.setResets x).work = s.work := rfl
@[simp] theorem setResets_buf : (s.setResets x).buf = s.buf := rfl
@[simp] theorem setResets_lstate : (s.setResets x).lstate = s.lstate := rfl
@[simp] theorem setResets_msize : (s.setResets x).msize = s.msize := rfl
@[simp] theorem setResets_eodLatched : (s.setResets x).eodLatched = s.eodLatched := rfl
@[simp] theorem setResets_step : (s.setResets x).step = s.step := rfl
@[simp] theorem setResets_fault : (s.setResets x).fault = s.fault := rfl
@[simp] theorem setResets_faultCode : (s.setResets x).faultCode = s.faultCode := rfl
@[simp] theorem setResets_src : (s.setResets x).src = s.src := rfl
@[simp] theorem setResets_host : (s.setResets x).host = s.host := rfl
@[simp] theorem setResets_forced : (s.setResets x).forced = s.forced := rfl
@[simp] theorem setResets_result : (s.setResets x).result = s.result := rfl
@[simp] theorem setResets_resets : (s.setResets x).resets = x := rfl
@[simp] theorem setResets_draws : (s.setResets x).draws = s.draws := rfl
end

/-! ### `State.setDraws` -/

section
variable (s : State) (x : Nat)
@[simp] theorem setDraws_digest : (s.setDraws x).digest = s.digest := rfl
@[simp] theorem setDraws_work : (s.setDraws x).work = s.work := rfl
@[simp] theorem setDraws_buf : (s.setDraws x).buf = s.buf := rfl
@[simp] theorem setDraws_lstate : (s.setDraws x).lstate = s.lstate := rfl
@[simp] theorem setDraws_msize : (s.setDraws x).msize = s.msize := rfl
@[simp] theorem setDraws_eodLatched : (s.setDraws x).eodLatched = s.eodLatched := rfl
@[simp] theorem setDraws_step : (s.setDraws x).step = s.step := rfl
@[simp] theorem setDraws_fault : (s.setDraws x).fault = s.fault := rfl
@[simp] theorem setDraws_faultCode : (s.setDraws x).faultCode = s.faultCode := rfl
@[simp] theorem setDraws_src : (s.setDraws x).src = s.src := rfl
@[simp] theorem setDraws_host : (s.setDraws x).host = s.host := rfl
@[simp] theorem setDraws_forced : (s.setDraws x).forced = s.forced := rfl
@[simp] theorem setDraws_result : (s.setDraws x).result = s.result := rfl
@[simp] theorem setDraws_resets : (s.setDraws x).resets = s.resets := rfl
@[simp] theorem setDraws_draws : (s.setDraws x).draws = x := rfl
end

/-! ### `State.complete`: only `result` -/

section
variable (s : State) (x : ResultData)
@[simp] theorem complete_digest : (s.complete x).digest = s.digest := rfl
@[simp] theorem complete_work : (s.complete x).work = s.work := rfl
@[simp] theorem complete_buf : (s.complete x).buf = s.buf := rfl
@[simp] theorem complete_lstate : (s.complete x).lstate = s.lstate := rfl
@[simp] theorem complete_msize : (s.complete x).msize = s.msize := rfl
@[simp] theorem complete_eodLatched : (s.complete x).eodLatched = s.eodLatched := rfl
@[simp] theorem complete_step : (s.complete x).step = s.step := rfl
@[simp] theorem complete_fault : (s.complete x).fault = s.fault := rfl
@[simp] theorem complete_faultCode : (s.complete x).faultCode = s.faultCode := rfl
@[simp] theorem complete_src : (s.complete x).src = s.src := rfl
@[simp] theorem complete_host : (s.complete x).host = s.host := rfl
@[simp] theorem complete_forced : (s.complete x).forced = s.forced := rfl
@[simp] theorem complete_result : (s.complete x).result = some ⟨s.fault, s.faultCode, x⟩ := rfl
@[simp] theorem complete_resets : (s.complete x).resets = s.resets := rfl
@[simp] theorem complete_draws : (s.complete x).draws = s.draws := rfl
end

/-! ### `State.completeFree`: only `result` and `draws` -/

section
variable (s : State) (x : Nat → ResultData)
@[simp] theorem completeFree_digest : (s.completeFree x).digest = s.digest := rfl
@[simp] theorem completeFree_work : (s.completeFree x).work = s.work := rfl
@[simp] theorem completeFree_buf : (s.completeFree x).buf = s.buf := rfl
@[simp] theorem completeFree_lstate : (s.completeFree x).lstate = s.lstate := rfl
@[simp] theorem completeFree_msize : (s.completeFree x).msize = s.msize := rfl
@[simp] theorem completeFree_eodLatched : (s.completeFree x).eodLatched = s.eodLatched := rfl
@[simp] theorem completeFree_step : (s.completeFree x).step = s.step := rfl
@[simp] theorem completeFree_fault : (s.completeFree x).fault = s.fault := rfl
@[simp] theorem completeFree_faultCode : (s.completeFree x).faultCode = s.faultCode := rfl
@[simp] theorem completeFree_src : (s.completeFree x).src = s.src := rfl
@[simp] theorem completeFree_host : (s.completeFree x).host = s.host := rfl
@[simp] theorem completeFree_forced : (s.completeFree x).forced = s.forced := rfl
@[simp] theorem completeFree_result : (s.completeFree x).result = some ⟨s.fault, s.faultCode, x s.draws⟩ := rfl
@[simp] theorem completeFree_resets : (s.completeFree x).resets = s.resets := rfl
@[simp] theorem completeFree_draws : (s.completeFree x).draws = s.draws + 1 := rfl
end

/-! ### `State.raiseLoaderSeq`: only `fault` and `faultCode` (60_exceptions.md R200, R201) -/

section
variable (s : State)
@[simp] theorem raiseLoaderSeq_digest : s.raiseLoaderSeq.digest = s.digest := rfl
@[simp] theorem raiseLoaderSeq_work : s.raiseLoaderSeq.work = s.work := rfl
@[simp] theorem raiseLoaderSeq_buf : s.raiseLoaderSeq.buf = s.buf := rfl
@[simp] theorem raiseLoaderSeq_lstate : s.raiseLoaderSeq.lstate = s.lstate := rfl
@[simp] theorem raiseLoaderSeq_msize : s.raiseLoaderSeq.msize = s.msize := rfl
@[simp] theorem raiseLoaderSeq_eodLatched : s.raiseLoaderSeq.eodLatched = s.eodLatched := rfl
@[simp] theorem raiseLoaderSeq_step : s.raiseLoaderSeq.step = s.step := rfl
@[simp] theorem raiseLoaderSeq_fault : s.raiseLoaderSeq.fault = true := rfl
@[simp] theorem raiseLoaderSeq_faultCode : s.raiseLoaderSeq.faultCode = 0b01#2 := rfl
@[simp] theorem raiseLoaderSeq_src : s.raiseLoaderSeq.src = s.src := rfl
@[simp] theorem raiseLoaderSeq_host : s.raiseLoaderSeq.host = s.host := rfl
@[simp] theorem raiseLoaderSeq_forced : s.raiseLoaderSeq.forced = s.forced := rfl
@[simp] theorem raiseLoaderSeq_result : s.raiseLoaderSeq.result = s.result := rfl
@[simp] theorem raiseLoaderSeq_resets : s.raiseLoaderSeq.resets = s.resets := rfl
@[simp] theorem raiseLoaderSeq_draws : s.raiseLoaderSeq.draws = s.draws := rfl
end

/-! ### `State.applyReset` (70_reset_and_hazards.md R230) -/

section
variable (s : State)
@[simp] theorem applyReset_digest : s.applyReset.digest = initialDigest := rfl
@[simp] theorem applyReset_work : s.applyReset.work = powerOnWork (s.resets + 1) := rfl
@[simp] theorem applyReset_buf : s.applyReset.buf = [] := rfl
@[simp] theorem applyReset_lstate : s.applyReset.lstate = .reading := rfl
@[simp] theorem applyReset_msize : s.applyReset.msize = 0#64 := rfl
@[simp] theorem applyReset_eodLatched : s.applyReset.eodLatched = false := rfl
@[simp] theorem applyReset_step : s.applyReset.step = 0#7 := rfl
@[simp] theorem applyReset_fault : s.applyReset.fault = false := rfl
@[simp] theorem applyReset_faultCode : s.applyReset.faultCode = 0#2 := rfl
@[simp] theorem applyReset_src : s.applyReset.src = s.src := rfl
@[simp] theorem applyReset_host : s.applyReset.host = s.host := rfl
@[simp] theorem applyReset_forced : s.applyReset.forced = none := rfl
@[simp] theorem applyReset_result : s.applyReset.result = none := rfl
@[simp] theorem applyReset_resets : s.applyReset.resets = s.resets + 1 := rfl
@[simp] theorem applyReset_draws : s.applyReset.draws = s.draws := rfl
end

end Sys2Proof.Machine
end

