-- ==== Sys2Proof/Laws/Memory.lean ====
section
/-! SUPPORT. Laws of the block buffer: reading after writing, and that every write keeps the canonical form. -/

namespace Sys2Proof.Machine

@[simp] theorem read_nil (a : Nat) : Memory.read [] a = none := rfl

/-- A write is read back at its index and leaves every other index alone. -/
theorem read_write (m : Memory) (a b : Nat) (v : Byte) :
    Memory.read (Memory.write m a v) b = if a = b then some v else Memory.read m b := by
  induction m with
  | nil => rfl
  | cons c m ih =>
    obtain ⟨x, u⟩ := c
    simp only [Memory.write]
    split
    · rfl
    · split
      · subst x; simp only [Memory.read]; split <;> rfl
      · simp only [Memory.read, ih]
        by_cases hx : x = b
        · subst x; simp_all
        · simp [hx]

/-- Writing `vs` from index `a` on: the bytes written are read back in order, the others are as before. -/
theorem read_writeBytes (vs : List Byte) : ∀ (m : Memory) (a b : Nat),
    Memory.read (Memory.writeBytes m a vs) b =
      if a ≤ b ∧ b < a + vs.length then vs[b - a]? else Memory.read m b := by
  induction vs with
  | nil => intro m a b; simp [Memory.writeBytes]
  | cons v vs ih =>
    intro m a b
    simp only [Memory.writeBytes, ih, read_write, List.length_cons]
    by_cases h1 : a + 1 ≤ b ∧ b < a + 1 + vs.length
    · have e : b - a = (b - (a + 1)) + 1 := by omega
      rw [if_pos h1, if_pos (by omega), e, List.getElem?_cons_succ]
    · rw [if_neg h1]
      by_cases h2 : a = b
      · subst a; simp
      · rw [if_neg h2, if_neg (by omega)]

/-- A form that rises from `lo` on also rises from any lower bound. -/
theorem wfFrom_mono {lo hi : Nat} (h : lo ≤ hi) : ∀ {m : Memory}, Memory.wfFrom hi m = true → Memory.wfFrom lo m = true
  | [], _ => rfl
  | (a, _) :: m, hm => by
    simp only [Memory.wfFrom, Bool.and_eq_true, decide_eq_true_eq] at hm ⊢
    exact ⟨⟨by omega, hm.1.2⟩, hm.2⟩

theorem wfFrom_write (m : Memory) : ∀ (lo a : Nat) (v : Byte), lo ≤ a → a < 64 →
    Memory.wfFrom lo m = true → Memory.wfFrom lo (Memory.write m a v) = true := by
  induction m with
  | nil => intro lo a v h1 h2 _; simp [Memory.write, Memory.wfFrom, h1, h2]
  | cons c m ih =>
    obtain ⟨x, u⟩ := c
    intro lo a v h1 h2 hm
    simp only [Memory.wfFrom, Bool.and_eq_true, decide_eq_true_eq] at hm
    simp only [Memory.write]
    split
    · simp only [Memory.wfFrom, Bool.and_eq_true, decide_eq_true_eq]
      exact ⟨⟨h1, h2⟩, ⟨by omega, hm.1.2⟩, hm.2⟩
    · split
      · subst x; simpa only [Memory.wfFrom, Bool.and_eq_true, decide_eq_true_eq] using hm
      · simp only [Memory.wfFrom, Bool.and_eq_true, decide_eq_true_eq]
        exact ⟨hm.1, ih (x + 1) a v (by omega) h2 hm.2⟩

/-- A write inside the buffer keeps the canonical form. -/
theorem wf_write {m : Memory} {a : Nat} (v : Byte) (ha : a < 64) (hm : Memory.wf m = true) :
    Memory.wf (Memory.write m a v) = true :=
  wfFrom_write m 0 a v (Nat.zero_le _) ha hm

/-- Writing bytes inside the buffer keeps the canonical form. -/
theorem wf_writeBytes (vs : List Byte) : ∀ {m : Memory} {a : Nat}, a + vs.length ≤ 64 → Memory.wf m = true →
    Memory.wf (Memory.writeBytes m a vs) = true := by
  induction vs with
  | nil => intro m a _ h; exact h
  | cons v vs ih =>
    intro m a ha hm
    simp only [List.length_cons] at ha
    exact ih (by omega) (wf_write v (by omega) hm)

/-- The byte a command sees at index `a` depends on the buffer's cell there and on the number of resets. -/
theorem bufByte_congr {s t : State} {a : Nat} (hb : Memory.read t.buf a = Memory.read s.buf a)
    (hr : t.resets = s.resets) : t.bufByte a = s.bufByte a := by
  simp [State.bufByte, hb, hr]

/-- A written byte is what a command sees. -/
theorem bufByte_of_read {s : State} {a : Nat} {v : Byte} (h : Memory.read s.buf a = some v) : s.bufByte a = v := by
  simp [State.bufByte, h]

/-- The Word view depends on the buffer and the number of resets alone. -/
theorem bufWord_congr {s t : State} (hb : t.buf = s.buf) (hr : t.resets = s.resets) (k : Nat) :
    t.bufWord k = s.bufWord k := by
  simp [State.bufWord, State.bufByte, hb, hr]

end Sys2Proof.Machine
end

