-- ==== Sys2Proof/Laws/Ops.lean ====
section
/-! SUPPORT. What each shared operation can answer: sequencing, the check of `fault`, the source port. -/

namespace Sys2Proof.Machine

variable {s t u : State} {o : Host.Outcome State Fault Refusal} {k : State → Host.Outcome State Fault Refusal}

@[simp] theorem andThen_next : andThen (.next s) k = k s := rfl
@[simp] theorem andThen_fault (r : Fault) : andThen (.fault r) k = .fault r := rfl
@[simp] theorem andThen_refused (r : Refusal) : andThen (.refused r) k = .refused r := rfl

/-- Two operations answer a next state exactly when the first does and the second does from there. -/
theorem andThen_eq_next : andThen o k = .next t ↔ ∃ u, o = .next u ∧ k u = .next t := by
  cases o <;> simp

/-- Sequencing is associative. -/
theorem andThen_assoc (k' : State → Host.Outcome State Fault Refusal) :
    andThen (andThen o k) k' = andThen o fun v => andThen (k v) k' := by
  cases o <;> rfl

/-- With `fault` clear a command runs its body (60_exceptions.md R205). -/
theorem command_clear {f : State → State} (h : s.fault = false) : command s f k = k s := by
  simp [command, h]

/-- With `fault` set a command has no effect but its answer (60_exceptions.md R203). -/
theorem command_faulted {f : State → State} (h : s.fault = true) : command s f k = .next (f s) := by
  simp [command, h]

@[simp] theorem streamChunk_length (id read : Nat) : (streamChunk id read).bytes.length = 64 := by simp [streamChunk]
@[simp] theorem streamChunk_eod (id read : Nat) : (streamChunk id read).eod = false := rfl

/-- The answer that ends a stream's message is short or carries end-of-data (20_memory.md R57). -/
theorem streamEnd_ends (id read : Nat) :
    (streamEnd id read).bytes.length < 64 ∨ (streamEnd id read).eod = true := by
  by_cases h : (Config.streamLength id read).val = 64
  · exact .inr (by simp [streamEnd, h])
  · exact .inl (by simp only [streamEnd, List.length_map, List.length_range]; omega)

/-- What a source read answers: the next listed answer, the end of data, nothing at all, or the next answer of a stream
(20_memory.md R56, R57, R60). -/
theorem sourceRead_cases (x : Source) :
    (∃ a rest, x.pending = a :: rest ∧ sourceRead x = some (a, ⟨rest, x.tail⟩)) ∨
    (x.pending = [] ∧ x.tail = .ended ∧ sourceRead x = some (emptyAnswer, x)) ∨
    (x.pending = [] ∧ x.tail = .silent ∧ sourceRead x = none) ∨
    (x.pending = [] ∧ ∃ id read full, x.tail = .stream id read full ∧
      sourceRead x = some ((streamRead id read full).1, ⟨[], (streamRead id read full).2⟩)) := by
  obtain ⟨p, tl⟩ := x
  cases p with
  | cons a rest => exact .inl ⟨a, rest, rfl, rfl⟩
  | nil => cases tl with
    | ended => exact .inr (.inl ⟨rfl, rfl, rfl⟩)
    | silent => exact .inr (.inr (.inl ⟨rfl, rfl, rfl⟩))
    | stream id read full => exact .inr (.inr (.inr ⟨rfl, id, read, full, rfl, rfl⟩))

/-- A source that has not fallen silent answers, and does not fall silent by answering. -/
theorem sourceRead_answers {x : Source} (h : x.tail ≠ .silent) :
    ∃ a rest, sourceRead x = some (a, rest) ∧ rest.tail ≠ .silent := by
  obtain ⟨a, rest, _, e⟩ | ⟨_, _, e⟩ | ⟨_, ht, _⟩ | ⟨_, id, read, full, _, e⟩ := sourceRead_cases x
  · exact ⟨a, _, e, h⟩
  · exact ⟨_, _, e, h⟩
  · exact absurd ht h
  · refine ⟨_, _, e, ?_⟩
    cases full with
    | none => simp [streamRead]
    | some n => cases n <;> simp [streamRead]

end Sys2Proof.Machine
end

