-- ==== Sys2Proof/Laws/Engine.lean ====
section
/-! SUPPORT. What the engine's operations can answer, and what they leave alone (41_engine.md). -/

namespace Sys2Proof.Machine

/-- An engine operation leaves everything but the DigestState, the working registers and `step` as it was. -/
def SameOutsideEngine (s t : State) : Prop :=
  t.buf = s.buf ∧ t.lstate = s.lstate ∧ t.msize = s.msize ∧ t.eodLatched = s.eodLatched ∧ t.fault = s.fault ∧
  t.faultCode = s.faultCode ∧ t.src = s.src ∧ t.host = s.host ∧ t.forced = s.forced ∧ t.result = s.result ∧
  t.resets = s.resets ∧ t.draws = s.draws

theorem SameOutsideEngine.refl (s : State) : SameOutsideEngine s s := by simp [SameOutsideEngine]

theorem SameOutsideEngine.trans {s t u : State} (h : SameOutsideEngine s t) (g : SameOutsideEngine t u) :
    SameOutsideEngine s u := by
  unfold SameOutsideEngine at *
  simp [g, h]

/-- The step counter's successor, below 127. -/
theorem step_succ {n : BitVec 7} (h : n.toNat ≤ 64) : (n + 1#7).toNat = n.toNat + 1 := by
  simp only [BitVec.toNat_add, BitVec.toNat_ofNat]; omega

/-- The sine table has an entry exactly at 1 to 64 (R146). -/
theorem sine?_isSome (n : Nat) : (Rom.sine? n).isSome = true ↔ 1 ≤ n ∧ n ≤ 64 := by
  cases n with
  | zero => simp [Rom.sine?]
  | succ i =>
    have h : Rom.sineTable.length = 64 := by decide
    rw [Rom.sine?, Option.isSome_iff_ne_none, Ne, List.getElem?_eq_none_iff, h]; omega

/-- The control store has an entry exactly at 1 to 64 (30_encoding.md R86). -/
theorem controlWord?_isSome (n : Nat) : (Rom.controlWord? n).isSome = true ↔ 1 ≤ n ∧ n ≤ 64 := by
  cases n with
  | zero => simp [Rom.controlWord?]
  | succ i =>
    have h : Rom.controlStore.length = 64 := by decide
    rw [Rom.controlWord?, Option.isSome_iff_ne_none, Ne, List.getElem?_eq_none_iff, h]; omega

/-- The state after a step, where there is a constant for it. -/
def State.stepped (s : State) (fn : AuxFn) (k : BitVec 4) (sh : BitVec 5) (t : Word) : State :=
  (s.setWork (s.work.stepped fn s.step.toNat (s.bufWord k.toNat) t sh)).setStep (s.step + 1#7)

/-- A step writes its register and `step`, at 1 to 64, and is refused elsewhere (R151). -/
theorem engineStep_cases (fn : AuxFn) (k : BitVec 4) (sh : BitVec 5) (s : State) :
    (∃ t, Rom.sine? s.step.toNat = some t ∧ 1 ≤ s.step.toNat ∧ s.step.toNat ≤ 64 ∧
      engineStep fn k sh s = .next (s.stepped fn k sh t)) ∨
    ((s.step.toNat = 0 ∨ 64 < s.step.toNat) ∧ engineStep fn k sh s = .refused (.noSuchStep s.step)) := by
  cases h : Rom.sine? s.step.toNat with
  | none =>
    have hn : ¬(1 ≤ s.step.toNat ∧ s.step.toNat ≤ 64) := by
      rw [← sine?_isSome, h]; simp
    exact .inr ⟨by omega, by simp [engineStep, h]⟩
  | some t =>
    have hs : 1 ≤ s.step.toNat ∧ s.step.toNat ≤ 64 := by rw [← sine?_isSome, h]; rfl
    exact .inl ⟨t, rfl, hs.1, hs.2, by simp [engineStep, h, State.stepped]⟩

/-- A step leaves everything outside the engine, and the DigestState, as it was. -/
theorem stepped_frame (s : State) (fn : AuxFn) (k : BitVec 4) (sh : BitVec 5) (t : Word) :
    SameOutsideEngine s (s.stepped fn k sh t) ∧ (s.stepped fn k sh t).digest = s.digest ∧
      (s.stepped fn k sh t).step = s.step + 1#7 := by
  simp [SameOutsideEngine, State.stepped]

theorem engineStep_frame {fn : AuxFn} {k : BitVec 4} {sh : BitVec 5} {s t : State}
    (h : engineStep fn k sh s = .next t) :
    SameOutsideEngine s t ∧ t.digest = s.digest ∧ t.step.toNat = s.step.toNat + 1 ∧ s.step.toNat ≤ 64 := by
  obtain ⟨c, _, _, h64, e⟩ | ⟨_, e⟩ := engineStep_cases fn k sh s
  · rw [e] at h
    injection h with h
    subst h
    obtain ⟨f1, f2, f3⟩ := stepped_frame s fn k sh c
    exact ⟨f1, f2, by rw [f3, step_succ h64], h64⟩
  · rw [e] at h; cases h

/-- A store entry is the step of its kind at its index (R151's precondition). -/
theorem entryStep_eq_next {index : Nat} {fn : AuxFn} {k : BitVec 4} {sh : BitVec 5} {s t : State} :
    entryStep index fn k sh s = .next t ↔ s.step.toNat = index ∧ engineStep fn k sh s = .next t := by
  unfold entryStep; split <;> simp_all

/-- LATCH answers a next state exactly at `step = 0` (R152). -/
theorem execLatch_eq_next {s t : State} :
    execLatch s = .next t ↔ s.step = 0#7 ∧ t = (s.setWork s.digest).setStep 1#7 := by
  unfold execLatch; split <;> rename_i h <;> simp only [h, reduceCtorEq, false_and, true_and, Host.Outcome.next.injEq]; exact eq_comm

/-- CHAIN answers a next state exactly at `step = 65` (R158). -/
theorem execChain_eq_next {s t : State} :
    execChain s = .next t ↔ s.step = 65#7 ∧ t = (s.setDigest (s.digest.add s.work)).setStep 0#7 := by
  unfold execChain; split <;> rename_i h <;> simp only [h, reduceCtorEq, false_and, true_and, Host.Outcome.next.injEq]; exact eq_comm

/-- A store step answers a next state at 1 to 64, and is the step of the word there (R157). -/
theorem storeStep_cases (s : State) :
    (∃ w t, Rom.controlWord? s.step.toNat = some w ∧ Rom.sine? s.step.toNat = some t ∧ 1 ≤ s.step.toNat ∧
      s.step.toNat ≤ 64 ∧ storeStep s = .next (s.stepped (ctlFn w) (ctlK w) (ctlS w) t)) ∨
    ((s.step.toNat = 0 ∨ 64 < s.step.toNat) ∧ storeStep s = .refused (.noSuchStep s.step)) := by
  unfold storeStep
  cases h : Rom.controlWord? s.step.toNat with
  | none =>
    have hn : ¬(1 ≤ s.step.toNat ∧ s.step.toNat ≤ 64) := by
      rw [← controlWord?_isSome, h]; simp
    exact .inr ⟨by omega, rfl⟩
  | some w =>
    have hw : 1 ≤ s.step.toNat ∧ s.step.toNat ≤ 64 := by rw [← controlWord?_isSome, h]; rfl
    obtain ⟨t, ht, h1, h2, e⟩ | ⟨hn, _⟩ := engineStep_cases (ctlFn w) (ctlK w) (ctlS w) s
    · exact .inl ⟨w, t, rfl, ht, h1, h2, e⟩
    · omega

/-- `n` store steps from `step = i` with `i + n <= 65` answer a next state with `step = i + n`, and leave the
DigestState and everything outside the engine as it was. -/
theorem storeSteps_next (n : Nat) : ∀ {s : State}, 1 ≤ s.step.toNat → s.step.toNat + n ≤ 65 →
    ∃ t, storeSteps n s = .next t ∧ SameOutsideEngine s t ∧ t.digest = s.digest ∧
      t.step.toNat = s.step.toNat + n := by
  induction n with
  | zero => intro s _ _; exact ⟨s, rfl, .refl s, rfl, rfl⟩
  | succ n ih =>
    intro s h1 h2
    obtain ⟨w, c, _, _, _, h64, e⟩ | ⟨hn, _⟩ := storeStep_cases s
    · obtain ⟨f1, f2, f3⟩ := stepped_frame s (ctlFn w) (ctlK w) (ctlS w) c
      have hs : (s.stepped (ctlFn w) (ctlK w) (ctlS w) c).step.toNat = s.step.toNat + 1 := by
        rw [f3, step_succ h64]
      obtain ⟨t, ht, g1, g2, g3⟩ := ih (s := s.stepped (ctlFn w) (ctlK w) (ctlS w) c) (by omega) (by omega)
      refine ⟨t, ?_, f1.trans g1, by rw [g2, f2], by omega⟩
      simp only [storeSteps, e, andThen_next, ht]
    · omega

/-- The last of `n + 1` store steps is a store step. -/
theorem storeSteps_succ (n : Nat) : ∀ s : State, storeSteps (n + 1) s = andThen (storeSteps n s) storeStep := by
  induction n with
  | zero =>
    intro s
    simp only [storeSteps, andThen_next]
    cases storeStep s <;> rfl
  | succ n ih =>
    intro s
    calc storeSteps (n + 2) s = andThen (storeStep s) (storeSteps (n + 1)) := rfl
      _ = andThen (storeStep s) (fun t => andThen (storeSteps n t) storeStep) := by
          congr 1; funext t; exact ih t
      _ = andThen (storeSteps (n + 1) s) storeStep := by rw [← andThen_assoc]; rfl

/-- After the steps CHAIN's state is the entry state with its sums and the working registers. -/
theorem chained_eq {s w : State} (h : s.step = 0#7)
    (hf : SameOutsideEngine ((s.setWork s.digest).setStep 1#7) w)
    (hd : w.digest = ((s.setWork s.digest).setStep 1#7).digest) :
    (w.setDigest (w.digest.add w.work)).setStep 0#7 = (s.setDigest (s.digest.add w.work)).setWork w.work := by
  obtain ⟨b1, b2, b3, b4, b5, b6, b7, b8, b9, b10, b11, b12⟩ := hf
  simp only [setStep_buf, setStep_lstate, setStep_msize, setStep_eodLatched, setStep_fault, setStep_faultCode,
    setStep_src, setStep_host, setStep_forced, setStep_result, setStep_resets, setStep_draws, setStep_digest,
    setWork_buf, setWork_lstate, setWork_msize, setWork_eodLatched, setWork_fault, setWork_faultCode, setWork_src,
    setWork_host, setWork_forced, setWork_result, setWork_resets, setWork_draws, setWork_digest] at *
  simp only [State.setDigest, State.setWork, State.setStep, b1, b2, b3, b4, b5, b6, b7, b8, b9, b10,
    b11, b12, hd, h]

/-- COMPRESS's body with the engine idle: LATCH, the 64 steps, CHAIN (R140). It writes the DigestState and the working
registers and nothing else, and `step` is 0 again. -/
theorem compressBlock_next {s : State} (h : s.step = 0#7) :
    ∃ w, storeSteps 64 ((s.setWork s.digest).setStep 1#7) = .next w ∧ w.step = 65#7 ∧
      compressBlock s = .next ((s.setDigest (s.digest.add w.work)).setWork w.work) := by
  have hl : execLatch s = .next ((s.setWork s.digest).setStep 1#7) := execLatch_eq_next.mpr ⟨h, rfl⟩
  obtain ⟨w, hw, hf, hd, hs⟩ := storeSteps_next 64 (s := (s.setWork s.digest).setStep 1#7)
    (by rw [setStep_step]; decide) (by rw [setStep_step]; decide)
  have h65 : w.step = 65#7 := by
    apply BitVec.eq_of_toNat_eq; rw [hs, setStep_step]; decide
  refine ⟨w, hw, h65, ?_⟩
  have hc : execChain w = .next ((w.setDigest (w.digest.add w.work)).setStep 0#7) :=
    execChain_eq_next.mpr ⟨h65, rfl⟩
  rw [compressBlock, hl, andThen_next, hw, andThen_next, hc, chained_eq h hf hd]

/-- With the engine busy COMPRESS's body is refused, as LATCH is (R152; log 13). -/
theorem compressBlock_busy {s : State} (h : s.step ≠ 0#7) : compressBlock s = .refused (.engineBusy s.step) := by
  simp [compressBlock, execLatch, h]

end Sys2Proof.Machine
end

