-- ==== Sys2Proof/Laws/Loader.lean ====
section
/-! SUPPORT. What NEXT does to each field, and the bytes it leaves in the buffer (40_loader.md). -/

namespace Sys2Proof.Machine

/-! ## The parts of NEXT, field by field -/

section
variable (s : State) (bytes : List Byte) (n : Nat)

/-- A part of NEXT that writes only the buffer and the loader's registers: every other field is as before. -/
def SameOutsideLoader (s t : State) : Prop :=
  t.digest = s.digest ∧ t.work = s.work ∧ t.step = s.step ∧ t.fault = s.fault ∧ t.faultCode = s.faultCode ∧
  t.host = s.host ∧ t.forced = s.forced ∧ t.result = s.result ∧ t.resets = s.resets ∧ t.draws = s.draws

@[simp] theorem placeChunk_buf : (s.placeChunk bytes).buf = Memory.writeBytes s.buf 0 bytes := rfl
@[simp] theorem placeChunk_msize :
    (s.placeChunk bytes).msize = s.msize + BitVec.ofNat 64 (8 * bytes.length) := rfl
@[simp] theorem padFrom_buf :
    (s.padFrom n).buf =
      Memory.writeBytes (Memory.write s.buf n Rom.marker) (n + 1) (List.replicate (63 - n) 0#8) := rfl
@[simp] theorem writeLength_buf :
    s.writeLength.buf = Memory.writeBytes s.buf 56
      (wordBytes (s.msize.extractLsb' 0 32) ++ wordBytes (s.msize.extractLsb' 32 32)) := rfl
@[simp] theorem placeChunk_digest : (s.placeChunk bytes).digest = s.digest := rfl
@[simp] theorem placeChunk_work : (s.placeChunk bytes).work = s.work := rfl
@[simp] theorem placeChunk_lstate : (s.placeChunk bytes).lstate = s.lstate := rfl
@[simp] theorem placeChunk_eodLatched : (s.placeChunk bytes).eodLatched = s.eodLatched := rfl
@[simp] theorem placeChunk_step : (s.placeChunk bytes).step = s.step := rfl
@[simp] theorem placeChunk_fault : (s.placeChunk bytes).fault = s.fault := rfl
@[simp] theorem placeChunk_faultCode : (s.placeChunk bytes).faultCode = s.faultCode := rfl
@[simp] theorem placeChunk_src : (s.placeChunk bytes).src = s.src := rfl
@[simp] theorem placeChunk_host : (s.placeChunk bytes).host = s.host := rfl
@[simp] theorem placeChunk_forced : (s.placeChunk bytes).forced = s.forced := rfl
@[simp] theorem placeChunk_result : (s.placeChunk bytes).result = s.result := rfl
@[simp] theorem placeChunk_resets : (s.placeChunk bytes).resets = s.resets := rfl
@[simp] theorem placeChunk_draws : (s.placeChunk bytes).draws = s.draws := rfl
@[simp] theorem padFrom_digest : (s.padFrom n).digest = s.digest := rfl
@[simp] theorem padFrom_work : (s.padFrom n).work = s.work := rfl
@[simp] theorem padFrom_lstate : (s.padFrom n).lstate = s.lstate := rfl
@[simp] theorem padFrom_msize : (s.padFrom n).msize = s.msize := rfl
@[simp] theorem padFrom_eodLatched : (s.padFrom n).eodLatched = s.eodLatched := rfl
@[simp] theorem padFrom_step : (s.padFrom n).step = s.step := rfl
@[simp] theorem padFrom_fault : (s.padFrom n).fault = s.fault := rfl
@[simp] theorem padFrom_faultCode : (s.padFrom n).faultCode = s.faultCode := rfl
@[simp] theorem padFrom_src : (s.padFrom n).src = s.src := rfl
@[simp] theorem padFrom_host : (s.padFrom n).host = s.host := rfl
@[simp] theorem padFrom_forced : (s.padFrom n).forced = s.forced := rfl
@[simp] theorem padFrom_result : (s.padFrom n).result = s.result := rfl
@[simp] theorem padFrom_resets : (s.padFrom n).resets = s.resets := rfl
@[simp] theorem padFrom_draws : (s.padFrom n).draws = s.draws := rfl
@[simp] theorem writeLength_digest : s.writeLength.digest = s.digest := rfl
@[simp] theorem writeLength_work : s.writeLength.work = s.work := rfl
@[simp] theorem writeLength_lstate : s.writeLength.lstate = s.lstate := rfl
@[simp] theorem writeLength_msize : s.writeLength.msize = s.msize := rfl
@[simp] theorem writeLength_eodLatched : s.writeLength.eodLatched = s.eodLatched := rfl
@[simp] theorem writeLength_step : s.writeLength.step = s.step := rfl
@[simp] theorem writeLength_fault : s.writeLength.fault = s.fault := rfl
@[simp] theorem writeLength_faultCode : s.writeLength.faultCode = s.faultCode := rfl
@[simp] theorem writeLength_src : s.writeLength.src = s.src := rfl
@[simp] theorem writeLength_host : s.writeLength.host = s.host := rfl
@[simp] theorem writeLength_forced : s.writeLength.forced = s.forced := rfl
@[simp] theorem writeLength_result : s.writeLength.result = s.result := rfl
@[simp] theorem writeLength_resets : s.writeLength.resets = s.resets := rfl
@[simp] theorem writeLength_draws : s.writeLength.draws = s.draws := rfl

/-- NEXT in PADDING writes the buffer and `lstate` and nothing else (R120). -/
theorem lengthBlock_frame : SameOutsideLoader s s.lengthBlock ∧ s.lengthBlock.msize = s.msize ∧
    s.lengthBlock.eodLatched = s.eodLatched ∧ s.lengthBlock.src = s.src ∧ s.lengthBlock.lstate = .done := by
  simp [SameOutsideLoader, State.lengthBlock]

/-- NEXT in READING counts the chunk, writes the buffer, `lstate` and `eod_latched`, and nothing else (R112 to R119). -/
theorem loadChunk_frame (eod : Bool) : SameOutsideLoader s (s.loadChunk bytes eod) ∧
    (s.loadChunk bytes eod).msize = s.msize + BitVec.ofNat 64 (8 * bytes.length) ∧
    (s.loadChunk bytes eod).src = s.src := by
  unfold State.loadChunk SameOutsideLoader
  dsimp only
  split
  · simp
  · split <;> simp

/-- The loader's next state and `eod_latched` after a chunk (R114, R118, R119). -/
theorem loadChunk_control (eod : Bool) :
    (bytes.length = 64 → (s.loadChunk bytes eod).lstate = s.lstate ∧ (s.loadChunk bytes eod).eodLatched = eod) ∧
    (bytes.length ≤ 55 →
      (s.loadChunk bytes eod).lstate = .done ∧ (s.loadChunk bytes eod).eodLatched = false) ∧
    (bytes.length ≠ 64 → ¬ bytes.length ≤ 55 →
      (s.loadChunk bytes eod).lstate = .padding ∧ (s.loadChunk bytes eod).eodLatched = false) := by
  unfold State.loadChunk
  dsimp only [Config.blockBytes, Config.lastFitting]
  refine ⟨fun h => ?_, fun h => ?_, fun h1 h2 => ?_⟩
  · rw [if_pos h]; simp
  · rw [if_neg (by omega), if_pos h]; simp
  · rw [if_neg h1, if_neg h2]; simp

end

/-! ## The bytes in the buffer -/

/-- Byte `i` of the length suffix, the eight bytes of the counter from least to most significant (R117). -/
def lengthBytes (n : Count) : List Byte := wordBytes (n.extractLsb' 0 32) ++ wordBytes (n.extractLsb' 32 32)

@[simp] theorem lengthBytes_length (n : Count) : (lengthBytes n).length = 8 := rfl

/-- The buffer after a full chunk (R114). -/
theorem loadChunk_full_read (s : State) {bytes : List Byte} (eod : Bool) (h : bytes.length = 64) (a : Nat) :
    Memory.read (s.loadChunk bytes eod).buf a = if a < 64 then bytes[a]? else Memory.read s.buf a := by
  have e : (s.loadChunk bytes eod).buf = Memory.writeBytes s.buf 0 bytes := by
    unfold State.loadChunk; dsimp only [Config.blockBytes]; rw [if_pos h]; rfl
  rw [e, read_writeBytes]
  simp [h]

/-- The buffer after a short chunk that fits: message, marker, zeros, length (R115, R118; 30_encoding.md R91). -/
theorem loadChunk_fits_read (s : State) {bytes : List Byte} (eod : Bool) (h : bytes.length ≤ 55) {a : Nat}
    (ha : a < 64) :
    Memory.read (s.loadChunk bytes eod).buf a =
      if a < bytes.length then bytes[a]?
      else if a = bytes.length then some Rom.marker
      else if a < 56 then some 0#8
      else (lengthBytes (s.msize + BitVec.ofNat 64 (8 * bytes.length)))[a - 56]? := by
  have e : (s.loadChunk bytes eod).buf =
      Memory.writeBytes
        (Memory.writeBytes (Memory.write (Memory.writeBytes s.buf 0 bytes) bytes.length Rom.marker)
          (bytes.length + 1) (List.replicate (63 - bytes.length) 0#8)) 56
        (lengthBytes (s.msize + BitVec.ofNat 64 (8 * bytes.length))) := by
    unfold State.loadChunk; dsimp only [Config.blockBytes, Config.lastFitting]
    rw [if_neg (by omega), if_pos h]; rfl
  simp only [e, read_writeBytes, read_write, lengthBytes_length, List.length_replicate, Nat.zero_le, true_and,
    Nat.zero_add, Nat.sub_zero]
  by_cases h1 : 56 ≤ a
  · rw [if_pos (by omega), if_neg (by omega), if_neg (by omega), if_neg (by omega)]
  · rw [if_neg (by omega)]
    by_cases h2 : bytes.length + 1 ≤ a
    · rw [if_pos (by omega), if_neg (by omega), if_neg (by omega), if_pos (by omega),
        List.getElem?_replicate, if_pos (by omega)]
    · rw [if_neg (by omega)]
      by_cases h3 : bytes.length = a
      · rw [if_pos h3, if_neg (by omega), if_pos h3.symm]
      · rw [if_neg h3, if_pos (by omega), if_pos (by omega)]

/-- The buffer after a short chunk that does not fit: message, marker, zeros (R115, R119; 30_encoding.md R91). -/
theorem loadChunk_nofit_read (s : State) {bytes : List Byte} (eod : Bool) (h1 : bytes.length ≤ 63)
    (h2 : ¬ bytes.length ≤ 55) {a : Nat} (ha : a < 64) :
    Memory.read (s.loadChunk bytes eod).buf a =
      if a < bytes.length then bytes[a]? else if a = bytes.length then some Rom.marker else some 0#8 := by
  have e : (s.loadChunk bytes eod).buf =
      Memory.writeBytes (Memory.write (Memory.writeBytes s.buf 0 bytes) bytes.length Rom.marker)
        (bytes.length + 1) (List.replicate (63 - bytes.length) 0#8) := by
    unfold State.loadChunk; dsimp only [Config.blockBytes, Config.lastFitting]
    rw [if_neg (by omega), if_neg h2]; rfl
  simp only [e, read_writeBytes, read_write, List.length_replicate, Nat.zero_le, true_and, Nat.zero_add,
    Nat.sub_zero]
  by_cases h3 : bytes.length + 1 ≤ a
  · rw [if_pos (by omega), if_neg (by omega), if_neg (by omega), List.getElem?_replicate, if_pos (by omega)]
  · rw [if_neg (by omega)]
    by_cases h4 : bytes.length = a
    · rw [if_pos h4, if_neg (by omega), if_pos h4.symm]
    · rw [if_neg h4, if_pos (by omega), if_pos (by omega)]

/-- The buffer after NEXT in PADDING: zeros and the length (R120). -/
theorem lengthBlock_read (s : State) {a : Nat} (ha : a < 64) :
    Memory.read s.lengthBlock.buf a = if a < 56 then some 0#8 else (lengthBytes s.msize)[a - 56]? := by
  have e : s.lengthBlock.buf =
      Memory.writeBytes (Memory.writeBytes s.buf 0 (List.replicate 64 0#8)) 56 (lengthBytes s.msize) := by
    simp [State.lengthBlock, lengthBytes]
  simp only [e, read_writeBytes, lengthBytes_length, List.length_replicate]
  by_cases h : a < 56
  · rw [if_neg (by omega), if_pos (by omega), if_pos h, List.getElem?_replicate, if_pos (by omega)]
  · rw [if_pos (by omega), if_neg h]

/-- NEXT in PADDING keeps the buffer's canonical form. -/
theorem lengthBlock_wf {s : State} (h : Memory.wf s.buf = true) : Memory.wf s.lengthBlock.buf = true := by
  have h0 : Memory.wf (Memory.writeBytes s.buf 0 (List.replicate 64 0#8)) = true :=
    wf_writeBytes _ (by simp) h
  simp only [State.lengthBlock, setLstate_buf, writeLength_buf, setBuf_buf]
  exact wf_writeBytes _ (by simp [wordBytes]) h0

/-- NEXT in READING keeps the buffer's canonical form, for a chunk of at most 64 bytes. -/
theorem loadChunk_wf {s : State} {bytes : List Byte} (eod : Bool) (hl : bytes.length ≤ 64)
    (h : Memory.wf s.buf = true) : Memory.wf (s.loadChunk bytes eod).buf = true := by
  have hp : Memory.wf (s.placeChunk bytes).buf = true := wf_writeBytes _ (by omega) h
  unfold State.loadChunk
  dsimp only [Config.blockBytes, Config.lastFitting]
  split
  · exact hp
  · rename_i hn
    have hq : Memory.wf ((s.placeChunk bytes).padFrom bytes.length).buf = true :=
      wf_writeBytes _ (by simp only [List.length_replicate]; omega) (wf_write _ (by omega) hp)
    split
    · exact wf_writeBytes _ (by simp [wordBytes]) hq
    · exact hq

/-! ## What NEXT can answer -/

/-- NEXT without its result: the fault in DONE, the length block in PADDING, else a chunk from the latch or from the
source, or nothing where the source never answers (R111, R113, R121; 20_memory.md R60). -/
theorem nextBlock_cases (s : State) :
    (s.lstate = .done ∧ nextBlock s = .next s.raiseLoaderSeq) ∨
    (s.lstate = .padding ∧ nextBlock s = .next s.lengthBlock) ∨
    (s.lstate = .reading ∧ s.eodLatched = true ∧ nextBlock s = .next (s.loadChunk [] true)) ∨
    (s.lstate = .reading ∧ s.eodLatched = false ∧ ∃ a rest, sourceRead s.src = some (a, rest) ∧
      nextBlock s = .next ((s.setSrc rest).loadChunk a.bytes a.eod)) ∨
    (s.lstate = .reading ∧ s.eodLatched = false ∧ sourceRead s.src = none ∧
      nextBlock s = .fault .sourceSilent) := by
  unfold nextBlock
  cases hl : s.lstate
  · cases he : s.eodLatched
    · cases hr : sourceRead s.src with
      | none => exact .inr (.inr (.inr (.inr ⟨rfl, rfl, rfl, by simp⟩)))
      | some p => obtain ⟨a, rest⟩ := p; exact .inr (.inr (.inr (.inl ⟨rfl, rfl, a, rest, rfl, by simp⟩)))
    · exact .inr (.inr (.inl ⟨rfl, rfl, by simp [emptyAnswer]⟩))
  · exact .inr (.inl ⟨rfl, rfl⟩)
  · exact .inl ⟨rfl, rfl⟩

end Sys2Proof.Machine
end

