-- ==== Sys2Proof/Laws/PerInstr.lean ====
section
/-! SUPPORT. Laws about an instruction as syntax, one lemma for each constructor. -/

namespace Sys2Proof

/-- The number of bits of a code's format (30_encoding.md R87, R95). -/
def Code.width : Code → Nat
  | .cmd _ => 3
  | .ctl _ => 11
  | .seq _ => 0

/-- The width spec/opcode_table.json gives the instruction's row. -/
def Instr.tableWidth : Instr → Nat
  | .init | .hasmore | .next | .compress | .digest | .run => 3
  | .latch | .chain => 0
  | .stepF _ _ | .stepG _ _ | .stepH _ _ | .stepI _ _
  | .cw1 | .cw2 | .cw3 | .cw4 | .cw5 | .cw6 | .cw7 | .cw8
  | .cw9 | .cw10 | .cw11 | .cw12 | .cw13 | .cw14 | .cw15 | .cw16
  | .cw17 | .cw18 | .cw19 | .cw20 | .cw21 | .cw22 | .cw23 | .cw24
  | .cw25 | .cw26 | .cw27 | .cw28 | .cw29 | .cw30 | .cw31 | .cw32
  | .cw33 | .cw34 | .cw35 | .cw36 | .cw37 | .cw38 | .cw39 | .cw40
  | .cw41 | .cw42 | .cw43 | .cw44 | .cw45 | .cw46 | .cw47 | .cw48
  | .cw49 | .cw50 | .cw51 | .cw52 | .cw53 | .cw54 | .cw55 | .cw56
  | .cw57 | .cw58 | .cw59 | .cw60 | .cw61 | .cw62 | .cw63 | .cw64 => 11

/-- An instruction's code has the width of its row. -/
def Laws.Format.Statement (i : Instr) : Prop := (encode i).width = i.tableWidth

theorem Laws.Format.init : Laws.Format.Statement .init := rfl

theorem Laws.Format.hasmore : Laws.Format.Statement .hasmore := rfl

theorem Laws.Format.next : Laws.Format.Statement .next := rfl

theorem Laws.Format.compress : Laws.Format.Statement .compress := rfl

theorem Laws.Format.digest : Laws.Format.Statement .digest := rfl

theorem Laws.Format.run : Laws.Format.Statement .run := rfl

theorem Laws.Format.stepF (k : BitVec 4) (s : BitVec 5) : Laws.Format.Statement (.stepF k s) := rfl

theorem Laws.Format.stepG (k : BitVec 4) (s : BitVec 5) : Laws.Format.Statement (.stepG k s) := rfl

theorem Laws.Format.stepH (k : BitVec 4) (s : BitVec 5) : Laws.Format.Statement (.stepH k s) := rfl

theorem Laws.Format.stepI (k : BitVec 4) (s : BitVec 5) : Laws.Format.Statement (.stepI k s) := rfl

theorem Laws.Format.latch : Laws.Format.Statement .latch := rfl

theorem Laws.Format.chain : Laws.Format.Statement .chain := rfl

theorem Laws.Format.cw1 : Laws.Format.Statement .cw1 := rfl

theorem Laws.Format.cw2 : Laws.Format.Statement .cw2 := rfl

theorem Laws.Format.cw3 : Laws.Format.Statement .cw3 := rfl

theorem Laws.Format.cw4 : Laws.Format.Statement .cw4 := rfl

theorem Laws.Format.cw5 : Laws.Format.Statement .cw5 := rfl

theorem Laws.Format.cw6 : Laws.Format.Statement .cw6 := rfl

theorem Laws.Format.cw7 : Laws.Format.Statement .cw7 := rfl

theorem Laws.Format.cw8 : Laws.Format.Statement .cw8 := rfl

theorem Laws.Format.cw9 : Laws.Format.Statement .cw9 := rfl

theorem Laws.Format.cw10 : Laws.Format.Statement .cw10 := rfl

theorem Laws.Format.cw11 : Laws.Format.Statement .cw11 := rfl

theorem Laws.Format.cw12 : Laws.Format.Statement .cw12 := rfl

theorem Laws.Format.cw13 : Laws.Format.Statement .cw13 := rfl

theorem Laws.Format.cw14 : Laws.Format.Statement .cw14 := rfl

theorem Laws.Format.cw15 : Laws.Format.Statement .cw15 := rfl

theorem Laws.Format.cw16 : Laws.Format.Statement .cw16 := rfl

theorem Laws.Format.cw17 : Laws.Format.Statement .cw17 := rfl

theorem Laws.Format.cw18 : Laws.Format.Statement .cw18 := rfl

theorem Laws.Format.cw19 : Laws.Format.Statement .cw19 := rfl

theorem Laws.Format.cw20 : Laws.Format.Statement .cw20 := rfl

theorem Laws.Format.cw21 : Laws.Format.Statement .cw21 := rfl

theorem Laws.Format.cw22 : Laws.Format.Statement .cw22 := rfl

theorem Laws.Format.cw23 : Laws.Format.Statement .cw23 := rfl

theorem Laws.Format.cw24 : Laws.Format.Statement .cw24 := rfl

theorem Laws.Format.cw25 : Laws.Format.Statement .cw25 := rfl

theorem Laws.Format.cw26 : Laws.Format.Statement .cw26 := rfl

theorem Laws.Format.cw27 : Laws.Format.Statement .cw27 := rfl

theorem Laws.Format.cw28 : Laws.Format.Statement .cw28 := rfl

theorem Laws.Format.cw29 : Laws.Format.Statement .cw29 := rfl

theorem Laws.Format.cw30 : Laws.Format.Statement .cw30 := rfl

theorem Laws.Format.cw31 : Laws.Format.Statement .cw31 := rfl

theorem Laws.Format.cw32 : Laws.Format.Statement .cw32 := rfl

theorem Laws.Format.cw33 : Laws.Format.Statement .cw33 := rfl

theorem Laws.Format.cw34 : Laws.Format.Statement .cw34 := rfl

theorem Laws.Format.cw35 : Laws.Format.Statement .cw35 := rfl

theorem Laws.Format.cw36 : Laws.Format.Statement .cw36 := rfl

theorem Laws.Format.cw37 : Laws.Format.Statement .cw37 := rfl

theorem Laws.Format.cw38 : Laws.Format.Statement .cw38 := rfl

theorem Laws.Format.cw39 : Laws.Format.Statement .cw39 := rfl

theorem Laws.Format.cw40 : Laws.Format.Statement .cw40 := rfl

theorem Laws.Format.cw41 : Laws.Format.Statement .cw41 := rfl

theorem Laws.Format.cw42 : Laws.Format.Statement .cw42 := rfl

theorem Laws.Format.cw43 : Laws.Format.Statement .cw43 := rfl

theorem Laws.Format.cw44 : Laws.Format.Statement .cw44 := rfl

theorem Laws.Format.cw45 : Laws.Format.Statement .cw45 := rfl

theorem Laws.Format.cw46 : Laws.Format.Statement .cw46 := rfl

theorem Laws.Format.cw47 : Laws.Format.Statement .cw47 := rfl

theorem Laws.Format.cw48 : Laws.Format.Statement .cw48 := rfl

theorem Laws.Format.cw49 : Laws.Format.Statement .cw49 := rfl

theorem Laws.Format.cw50 : Laws.Format.Statement .cw50 := rfl

theorem Laws.Format.cw51 : Laws.Format.Statement .cw51 := rfl

theorem Laws.Format.cw52 : Laws.Format.Statement .cw52 := rfl

theorem Laws.Format.cw53 : Laws.Format.Statement .cw53 := rfl

theorem Laws.Format.cw54 : Laws.Format.Statement .cw54 := rfl

theorem Laws.Format.cw55 : Laws.Format.Statement .cw55 := rfl

theorem Laws.Format.cw56 : Laws.Format.Statement .cw56 := rfl

theorem Laws.Format.cw57 : Laws.Format.Statement .cw57 := rfl

theorem Laws.Format.cw58 : Laws.Format.Statement .cw58 := rfl

theorem Laws.Format.cw59 : Laws.Format.Statement .cw59 := rfl

theorem Laws.Format.cw60 : Laws.Format.Statement .cw60 := rfl

theorem Laws.Format.cw61 : Laws.Format.Statement .cw61 := rfl

theorem Laws.Format.cw62 : Laws.Format.Statement .cw62 := rfl

theorem Laws.Format.cw63 : Laws.Format.Statement .cw63 := rfl

theorem Laws.Format.cw64 : Laws.Format.Statement .cw64 := rfl

end Sys2Proof
end

