-- ==== Sys2Proof/Laws/Sequencer.lean ====
section
/-! SUPPORT. What one pass of RUN can answer, and that the fuel of RUN's loop is used up by full chunks without end alone
(42_driver.md R182, R183; log 17). -/

namespace Sys2Proof.Machine

/-- How many passes of RUN's loop are left at most, where it does not come to full chunks without end (40_loader.md
R123). -/
def State.passesLeft (s : State) : Nat :=
  match s.lstate, s.eodLatched with
  | .done, _ => 0
  | .padding, _ => 1
  | .reading, true => 1
  | .reading, false => s.src.pending.length + s.src.tail.untilEnd + 1

/-- The loader waits for message bytes and the source has nothing left but full chunks without end. -/
def State.Endless (s : State) : Prop :=
  s.lstate = .reading ∧ s.eodLatched = false ∧ ∃ id read, s.src = ⟨[], .stream id read none⟩

theorem passesLeft_lt_fuel (s : State) : s.passesLeft < s.runFuel := by
  unfold State.passesLeft State.runFuel; split <;> omega

theorem passesLeft_pos {s : State} (h : s.lstate ≠ .done) : 1 ≤ s.passesLeft := by
  unfold State.passesLeft; split <;> simp_all

/-- COMPRESS's body does not touch the loader. -/
theorem compressBlock_frame {s t : State} (h : compressBlock s = .next t) :
    SameOutsideEngine s t ∧ s.step = 0#7 ∧ t.step = 0#7 := by
  by_cases hs : s.step = 0#7
  · obtain ⟨w, _, _, e⟩ := compressBlock_next hs
    rw [e] at h
    injection h with h
    subst h
    simp [SameOutsideEngine, hs]
  · rw [compressBlock_busy hs] at h; cases h

/-- One pass leaves fewer passes, no fault and the engine idle; or the source is silent; or it delivers one more of its full
chunks without end. -/
theorem absorb_cases {s : State} (hd : s.lstate ≠ .done) (hf : s.fault = false) (hs : s.step = 0#7) :
    (∃ t u, nextBlock s = .next t ∧ compressBlock t = .next u ∧ absorb s = .next u ∧ t.passesLeft < s.passesLeft ∧
      u.passesLeft = t.passesLeft ∧ u.fault = false ∧ u.step = 0#7) ∨
    (s.lstate = .reading ∧ s.eodLatched = false ∧ sourceRead s.src = none ∧
      absorb s = .fault .sourceSilent) ∨
    (s.Endless ∧ ∃ u, absorb s = .next u ∧ u.Endless ∧ u.fault = false ∧ u.step = 0#7) := by
  have compress : ∀ t, nextBlock s = .next t → t.fault = false → t.step = 0#7 →
      ∃ u, compressBlock t = .next u ∧ absorb s = .next u ∧ u.lstate = t.lstate ∧ u.eodLatched = t.eodLatched ∧
        u.src = t.src ∧ u.fault = false ∧ u.step = 0#7 := by
    intro t ht h1 h2
    obtain ⟨w, _, _, e⟩ := compressBlock_next h2
    refine ⟨_, e, by rw [absorb, ht, andThen_next, e], ?_, ?_, ?_, ?_, ?_⟩ <;> simp [h1, h2]
  have key : ∀ t, nextBlock s = .next t → t.fault = false → t.step = 0#7 → t.passesLeft < s.passesLeft →
      (∃ t u, nextBlock s = .next t ∧ compressBlock t = .next u ∧ absorb s = .next u ∧
        t.passesLeft < s.passesLeft ∧ u.passesLeft = t.passesLeft ∧ u.fault = false ∧ u.step = 0#7) := by
    intro t ht h1 h2 h3
    obtain ⟨u, e1, e2, c1, c2, c3, c4, c5⟩ := compress t ht h1 h2
    exact ⟨t, u, ht, e1, e2, h3, by simp only [State.passesLeft, c1, c2, c3], c4, c5⟩
  obtain ⟨h, _⟩ | ⟨h, e⟩ | ⟨h, he, e⟩ | ⟨h, he, a, rest, hr, e⟩ | ⟨h, he, hr, e⟩ := nextBlock_cases s
  · exact absurd h hd
  · left
    obtain ⟨⟨_, _, f3, f4, _⟩, _, _, _, f5⟩ := lengthBlock_frame s
    refine key _ e (by rw [f4, hf]) (by rw [f3, hs]) ?_
    simp [State.passesLeft, f5, h]
  · left
    obtain ⟨⟨_, _, f3, f4, _⟩, _⟩ := loadChunk_frame s [] true
    have c := (loadChunk_control s [] true).2.1 (by simp)
    refine key _ e (by rw [f4, hf]) (by rw [f3, hs]) ?_
    simp [State.passesLeft, c.1, h, he]
  · obtain ⟨⟨_, _, f3, f4, _⟩, _, f5⟩ := loadChunk_frame (s.setSrc rest) a.bytes a.eod
    have g1 : ((s.setSrc rest).loadChunk a.bytes a.eod).fault = false := by rw [f4, setSrc_fault, hf]
    have g2 : ((s.setSrc rest).loadChunk a.bytes a.eod).step = 0#7 := by rw [f3, setSrc_step, hs]
    obtain ⟨c1, c2, c3⟩ := loadChunk_control (s.setSrc rest) a.bytes a.eod
    rw [setSrc_lstate, h] at c1
    rw [setSrc_src] at f5
    have hlen : s.passesLeft = s.src.pending.length + s.src.tail.untilEnd + 1 := by simp [State.passesLeft, h, he]
    -- after an answer that leaves fewer than `k` answers to count, fewer passes than `k + 1` are left
    have after : ∀ k, 1 ≤ k → (a.bytes.length = 64 → a.eod = false →
        rest.pending.length + rest.tail.untilEnd < k) →
        ((s.setSrc rest).loadChunk a.bytes a.eod).passesLeft < k + 1 := by
      intro k hk hfull
      by_cases h64 : a.bytes.length = 64
      · obtain ⟨d1, d2⟩ := c1 h64
        cases hb : a.eod with
        | true => rw [hb] at d1 d2; simp only [State.passesLeft, d1, d2]; omega
        | false =>
          have hlt := hfull h64 hb
          rw [hb] at d1 d2 f5; simp only [State.passesLeft, d1, d2, f5]; omega
      · by_cases h55 : a.bytes.length ≤ 55
        · simp only [State.passesLeft, (c2 h55).1]; omega
        · simp only [State.passesLeft, (c3 h64 h55).1]; omega
    obtain ⟨b, rest', hp, hq⟩ | ⟨hp, ht, hq⟩ | ⟨_, _, hq⟩ | ⟨hp, id, read, full, ht, hq⟩ := sourceRead_cases s.src
    · left
      obtain ⟨rfl, rfl⟩ : b = a ∧ ⟨rest', s.src.tail⟩ = rest := by simpa [hq] using hr
      refine key _ e g1 g2 ?_
      rw [hlen, hp, List.length_cons]
      exact after _ (by omega) fun _ _ => by dsimp only; omega
    · left
      obtain ⟨rfl, rfl⟩ : emptyAnswer = a ∧ s.src = rest := by simpa [hq] using hr
      refine key _ e g1 g2 ?_
      have d := c2 (by simp [emptyAnswer])
      simp [State.passesLeft, d.1, h, he]
    · rw [hq] at hr; cases hr
    · obtain ⟨rfl, rfl⟩ : (streamRead id read full).1 = a ∧ ⟨[], (streamRead id read full).2⟩ = rest := by
        simpa [hq] using hr
      cases full with
      | none =>
        right; right
        obtain ⟨d1, d2⟩ := c1 (streamChunk_length id read)
        obtain ⟨u, _, e2, k1, k2, k3, k4, k5⟩ := compress _ e g1 g2
        exact ⟨⟨h, he, id, read, by rw [← hp, ← ht]⟩, u, e2,
          ⟨by rw [k1, d1], by rw [k2, d2]; rfl, id, read + 1, by rw [k3, f5]; rfl⟩, k4, k5⟩
      | some n =>
        left
        refine key _ e g1 g2 ?_
        rw [hlen, hp, ht]
        refine after (0 + (n + 1)) (by omega) fun h64 heod => ?_
        cases n with
        | zero =>
          obtain hx | hx := streamEnd_ends id read
          · simp only [streamRead] at h64; omega
          · simp only [streamRead, hx] at heod; cases heod
        | succ n => simp [streamRead, SourceTail.untilEnd]
  · exact .inr (.inl ⟨h, he, hr, by rw [absorb, e]; rfl⟩)

/-- Against full chunks without end no amount of fuel is enough (R183). -/
theorem runLoop_endless (n : Nat) : ∀ {s : State}, s.fault = false → s.step = 0#7 → s.Endless →
    runLoop n s = .fault .sourceEndless := by
  induction n with
  | zero => intro s _ _ h; simp [runLoop, h.1]
  | succ n ih =>
    intro s hf hs h
    have hd : s.lstate ≠ .done := by rw [h.1]; simp
    obtain ⟨id, read, hx⟩ := h.2.2
    simp only [runLoop, hd, if_false]
    obtain ⟨t, u, e, _, _, h1, _⟩ | ⟨_, _, e, _⟩ | ⟨_, u, e, h1, h2, h3⟩ := absorb_cases hd hf hs
    · exfalso
      have hr : sourceRead s.src = some (streamChunk id read, ⟨[], .stream id (read + 1) none⟩) := by rw [hx]; rfl
      simp only [nextBlock, h.1, h.2.1, hr, Bool.false_eq_true, if_false] at e
      injection e with e
      obtain ⟨d1, d2⟩ := (loadChunk_control (s.setSrc ⟨[], .stream id (read + 1) none⟩) (streamChunk id read).bytes
        (streamChunk id read).eod).1 (streamChunk_length id read)
      have d3 := (loadChunk_frame (s.setSrc ⟨[], .stream id (read + 1) none⟩) (streamChunk id read).bytes
        (streamChunk id read).eod).2.2
      rw [e] at d1 d2 d3
      rw [setSrc_lstate, h.1] at d1
      rw [setSrc_src] at d3
      rw [streamChunk_eod] at d2
      simp [State.passesLeft, d1, d2, d3, h.1, h.2.1, hx, SourceTail.untilEnd] at h1
    · rw [hx] at e; cases e
    · rw [e, andThen_next]; exact ih h2 h3 h1

/-- Any two amounts of fuel that cover the passes left give the same answer. -/
theorem runLoop_fuel (n : Nat) : ∀ {m : Nat} {s : State}, s.fault = false → s.step = 0#7 → s.passesLeft ≤ n →
    s.passesLeft ≤ m → runLoop n s = runLoop m s := by
  induction n with
  | zero =>
    intro m s _ _ h _
    have hd : s.lstate = .done := by
      by_contra hd; have := passesLeft_pos hd; omega
    cases m <;> simp [runLoop, hd]
  | succ n ih =>
    intro m s hf hs hn hm
    by_cases hd : s.lstate = .done
    · cases m <;> simp [runLoop, hd]
    · have hp := passesLeft_pos hd
      obtain ⟨m, rfl⟩ : ∃ k, m = k + 1 := ⟨m - 1, by omega⟩
      obtain ⟨t, u, _, _, e, h1, h2, h3, h4⟩ | ⟨_, _, _, e⟩ | ⟨hx, _⟩ := absorb_cases hd hf hs
      · simp only [runLoop, hd, if_false, e, andThen_next]
        exact ih h3 h4 (by omega) (by omega)
      · simp only [runLoop, hd, if_false, e, andThen_fault]
      · rw [runLoop_endless _ hf hs hx, runLoop_endless _ hf hs hx]

/-- A loop that ends ends in DONE, with no fault and the engine idle. -/
theorem runLoop_done (n : Nat) : ∀ {s t : State}, s.fault = false → s.step = 0#7 → runLoop n s = .next t →
    t.lstate = .done ∧ t.fault = false ∧ t.step = 0#7 := by
  have done : ∀ {s t : State} {o : Host.Outcome State Fault Refusal}, s.fault = false → s.step = 0#7 →
      s.lstate = .done → o = .next s → o = .next t → t.lstate = .done ∧ t.fault = false ∧ t.step = 0#7 := by
    intro s t o hf hs hd e1 e2
    rw [e1] at e2
    injection e2 with e2
    subst e2
    exact ⟨hd, hf, hs⟩
  induction n with
  | zero =>
    intro s t hf hs e
    by_cases hd : s.lstate = .done
    · exact done hf hs hd (by simp [runLoop, hd]) e
    · simp [runLoop, hd] at e
  | succ n ih =>
    intro s t hf hs e
    by_cases hd : s.lstate = .done
    · exact done hf hs hd (by simp [runLoop, hd]) e
    · simp only [runLoop, hd, if_false] at e
      obtain ⟨v, u, _, _, e', _, _, h3, h4⟩ | ⟨_, _, _, e'⟩ | ⟨_, u, e', _, h3, h4⟩ := absorb_cases hd hf hs
      · rw [e', andThen_next] at e
        exact ih h3 h4 e
      · rw [e'] at e; cases e
      · rw [e', andThen_next] at e
        exact ih h3 h4 e

end Sys2Proof.Machine
end

