-- ==== Sys2Proof/Laws/Step.lean ====
section
/-! SUPPORT. What one step can do: a placed code, reset, a micro-operation of the round controller, or the host's next
input. -/

namespace Sys2Proof.Machine

@[simp] theorem step_eq (s : State) : step s = stepMachine s := rfl

/-- Performing a code that decodes is executing its instruction. -/
theorem perform_ok {code : Code} {i : Instr} (h : decode code = .ok i) (s : State) : perform code s = exec i s := by
  simp [perform, h]

/-- Performing a code that is no instruction is refused by name. -/
theorem perform_error {code : Code} {r : Reject} (h : decode code = .error r) (s : State) :
    perform code s = .refused (.undecodable r) := by
  simp [perform, h]

/-- Abandoning on reset changes nothing but an answer that waits for the source, or does not end, with reset next. -/
theorem unlessReset_cases (o : Host.Outcome State Fault Refusal) (s : State) :
    unlessReset o s = o ∨
    (o = .fault .sourceSilent ∧ ∃ rest, s.host = .reset :: rest ∧
      unlessReset o s = .next ((s.setHost rest).setSrc s.src.exhausted).applyReset) ∨
    (o = .fault .sourceEndless ∧ ∃ rest, s.host = .reset :: rest ∧
      unlessReset o s = .next (((s.setHost rest).setSrc (s.src.afterReads (Config.abandonedReads s.draws))).setDraws
        (s.draws + 1)).applyReset) := by
  unfold unlessReset
  split
  · rename_i h; exact .inr (.inl ⟨rfl, _, h, rfl⟩)
  · rename_i h; exact .inr (.inr ⟨rfl, _, h, rfl⟩)
  · exact .inl rfl

/-- The ways a step goes. -/
theorem stepMachine_cases (s : State) :
    (∃ code, s.forced = some code ∧ stepMachine s = perform code (s.setForced none)) ∨
    (s.forced = none ∧ ∃ rest, s.host = .reset :: rest ∧ stepMachine s = .next (s.setHost rest).applyReset) ∨
    (s.forced = none ∧ s.step ≠ 0#7 ∧ s.resetNext = false ∧ stepMachine s = stepController s) ∨
    (s.forced = none ∧ s.step = 0#7 ∧ s.resetNext = false ∧ stepMachine s = stepHost s) := by
  unfold stepMachine
  cases hf : s.forced with
  | some code => exact .inl ⟨code, rfl, rfl⟩
  | none =>
    right
    cases hr : s.resetNext with
    | true =>
      left
      unfold State.resetNext at hr
      split at hr
      · rename_i rest hh
        exact ⟨rfl, rest, hh, by simp [stepHost, hh]⟩
      · cases hr
    | false =>
      right
      by_cases hs : s.step = 0#7
      · exact .inr ⟨rfl, hs, rfl, by simp [hs]⟩
      · exact .inl ⟨rfl, hs, rfl, by simp [hs]⟩

/-- The host's next input when it is no reset: idle, a command, or a source. -/
theorem stepHost_cases (s : State) (h : s.resetNext = false) :
    (s.host = [] ∧ stepHost s = .next s) ∨
    (∃ c rest, s.host = .command c :: rest ∧
      stepHost s = unlessReset (perform (.cmd c) (s.setHost rest)) (s.setHost rest)) ∨
    (∃ x rest, s.host = .attach x :: rest ∧ stepHost s = .next ((s.setHost rest).setSrc x)) := by
  unfold State.resetNext at h
  unfold stepHost
  cases hh : s.host with
  | nil => exact .inl ⟨rfl, rfl⟩
  | cons x rest => cases x with
    | command c => exact .inr (.inl ⟨c, rest, rfl, rfl⟩)
    | reset => simp [hh] at h
    | attach y => exact .inr (.inr ⟨y, rest, rfl, rfl⟩)

/-- The round controller has a code exactly for `step` at most 65 (41_engine.md R157). -/
theorem controllerCode_isSome (st : BitVec 7) : (controllerCode st).isSome = true ↔ st.toNat ≤ 65 := by
  revert st; decide

end Sys2Proof.Machine
end

