-- ==== Sys2Proof/Tests/Slice0.lean ====
section
/-! SUPPORT. Tests: the smoke tests of WellFormed, words decoded, single instructions against the vectors of
95_test_vectors.md and the worked examples of the rules, and a witness for the hypotheses of every obligation. -/

open Sys2Proof Sys2Proof.Machine Sys2Proof.Claims

namespace Sys2Proof.Tests

set_option Elab.async false

/-! ## Helpers -/

/-- The outcome is a next state of which `p` holds. -/
def nextIs (o : Host.Outcome State Fault Refusal) (p : State → Bool) : Bool :=
  match o with
  | .next t => p t
  | _ => false

/-- The next state, and the reset state where there is none. -/
def after (o : Host.Outcome State Fault Refusal) : State :=
  match o with
  | .next t => t
  | _ => State.reset

/-- `n` bytes of 0x61. -/
def letters (n : Fin 65) (eod : Bool) : SourceAnswer :=
  ⟨List.replicate n.val 0x61#8, eod, by simp only [List.length_replicate]; omega⟩

/-- The chunk `"abc"`. -/
def abc : SourceAnswer := ⟨[0x61#8, 0x62#8, 0x63#8], true, by decide⟩

/-- The chunk `00 01 .. 3f`. -/
def rising (eod : Bool) : SourceAnswer := ⟨(List.range 64).map (BitVec.ofNat 8), eod, by decide⟩

/-- The state after reset with these answers in the source. -/
def fed (answers : List SourceAnswer) : State := { State.reset with src := ⟨answers, .ended⟩ }

/-- The state after reset with a source that answers nothing. -/
def unanswered : State := { State.reset with src := ⟨[], .silent⟩ }

/-- The state after reset with a source that delivers full chunks without end. -/
def endless : State := { State.reset with src := ⟨[], .stream 0 0 none⟩ }

/-- After one NEXT on `"abc"`: in DONE. -/
def loadedAbc : State := after (exec .next (fed [abc]))

/-- After one NEXT on the empty message. -/
def emptyBlock : State := after (exec .next State.reset)

/-- After one NEXT on 56 letters: in PADDING. -/
def inPadding : State := after (exec .next (fed [letters 56 true]))

/-- After one NEXT on a full chunk with end-of-data. -/
def latched : State := after (exec .next (fed [rising true, letters 5 false]))

/-- After a second NEXT on `"abc"`: faulted. -/
def faulted : State := after (exec .next loadedAbc)

/-- Each instruction of the list, at the `step` that follows, takes each quad of the trace to the next one. -/
def follows (s : State) : Nat → List Instr → List Quad → Bool
  | i, instr :: instrs, q :: r :: more =>
    nextIs (exec instr { s with work := q, step := BitVec.ofNat 7 i })
      (fun t => decide (t.work = r ∧ t.step = BitVec.ofNat 7 (i + 1))) && follows s (i + 1) instrs (r :: more)
  | _, [], [_] => true
  | _, _, _ => false

/-! ## WellFormed: what it refuses

A control word that the store holds is written as its `CW[i]` row (log 11), so the same fields under a kind's name are
ill-formed. -/

theorem test_stepF_of_store_word_is_ill_formed : (Instr.stepF 0#4 7#5).wf = false := by decide

theorem test_stepG_of_store_word_is_ill_formed : (Instr.stepG 1#4 5#5).wf = false := by decide

theorem test_stepH_of_store_word_is_ill_formed : (Instr.stepH 5#4 4#5).wf = false := by decide

theorem test_stepI_of_store_word_is_ill_formed : (Instr.stepI 0#4 6#5).wf = false := by decide

theorem test_stepF_outside_store_is_well_formed : (Instr.stepF 3#4 7#5).wf = true := by decide

/-! ## Decoding: words written out from 30_encoding.md R80, R83, R85 -/

theorem test_decode_commands :
    [0b000, 0b001, 0b010, 0b011, 0b100, 0b101].map (decodeTableWord 8) =
      [some .init, some .hasmore, some .next, some .compress, some .digest, some .run] := by decide

theorem test_decode_reserved_commands :
    (decode (.cmd 0b110#3), decode (.cmd 0b111#3)) =
      (.error (.reservedCommand 0b110#3), .error (.reservedCommand 0b111#3)) := by decide

theorem test_decode_step_f : decode (.ctl 0b00_0101_11111#11) = .ok (.stepF 5#4 31#5) := by decide

theorem test_decode_step_g : decode (.ctl 0b01_1111_00001#11) = .ok (.stepG 15#4 1#5) := by decide

theorem test_decode_step_h : decode (.ctl 0b10_0000_10000#11) = .ok (.stepH 0#4 16#5) := by decide

theorem test_decode_step_i : decode (.ctl 0b11_1001_00000#11) = .ok (.stepI 9#4 0#5) := by decide

theorem test_decode_store_words :
    (decode (.ctl 0b00_0000_00111#11), decode (.ctl 0b01_1011_01110#11), decode (.ctl 0b10_1110_10111#11),
      decode (.ctl 0b11_1001_10101#11)) = (.ok .cw1, .ok .cw19, .ok .cw36, .ok .cw64) := by decide

theorem test_decode_sequencing :
    (decode (.seq 0#7), decode (.seq 65#7)) = (.ok .latch, .ok .chain) := by decide

/-! ## The loader (95_test_vectors.md section 2.1) -/

/-- V-L3. -/
theorem test_next_abc :
    nextIs (exec .next (fed [abc])) (fun t => decide (t.block =
      [0x80636261#32, 0#32, 0#32, 0#32, 0#32, 0#32, 0#32, 0#32, 0#32, 0#32, 0#32, 0#32, 0#32, 0#32, 0x18#32, 0#32] ∧
      t.msize = 24#64 ∧ t.lstate = .done)) = true := by decide +kernel

/-- V-L13: the carry of `msize` into the high Word. -/
theorem test_next_counter_carry :
    nextIs (exec .next { fed [⟨[0x00#8], true, by decide⟩] with msize := 0x00000000fffffff8#64 }) (fun t =>
      decide (t.bufWord 0 = 0x00008000#32 ∧ t.bufWord 14 = 0#32 ∧ t.bufWord 15 = 1#32)) = true := by decide +kernel

/-- V-L16: after reset 1; after V-L5 NEXT 1 1. -/
theorem test_hasmore_in_padding :
    nextIs (exec .hasmore inPadding) (fun t => decide (t.result = some ⟨false, 0#2, .more true⟩)) = true := by
  decide +kernel

/-- V-L16: after V-L1 NEXT 1 0. -/
theorem test_hasmore_in_done :
    nextIs (exec .hasmore emptyBlock) (fun t => decide (t.result = some ⟨false, 0#2, .more false⟩)) = true := by
  decide +kernel

/-! ## The engine (95_test_vectors.md sections 2.2 to 2.4; 41_engine.md R152 to R158) -/

/-- V-E1 to V-E4. -/
theorem test_aux :
    [AuxFn.f, .g, .h, .i].map (fun fn => aux fn 0x0f0f0f0f#32 0x33333333#32 0x55555555#32) =
      [0x53535353#32, 0x27272727#32, 0x69696969#32, 0x9c9c9c9c#32] := by decide

/-- V-E13, V-E14, V-E16, V-E17. -/
theorem test_rotl32 :
    (rotl32 0x80000001#32 1#5, rotl32 0x12345678#32 4#5, rotl32 0xdeadbeef#32 23#5, rotl32 0x00000001#32 31#5) =
      (0x00000003#32, 0x23456781#32, 0x77ef56df#32, 0x80000000#32) := by decide +kernel

/-- R152. -/
theorem test_latch :
    nextIs (exec .latch State.reset) (fun t => decide (t.step = 1#7 ∧
      t.work = ⟨0x67452301#32, 0xefcdab89#32, 0x98badcfe#32, 0x10325476#32⟩)) = true := by decide +kernel

/-- R153, step 1. -/
theorem test_stepF :
    nextIs (exec (.stepF 0#4 7#5) (after (exec .latch emptyBlock))) (fun t => decide (t.step = 2#7 ∧
      t.work = ⟨0xa5202774#32, 0xefcdab89#32, 0x98badcfe#32, 0x10325476#32⟩)) = true := by decide +kernel

/-- R154, step 17. -/
theorem test_stepG :
    nextIs (exec (.stepG 1#4 5#5) { emptyBlock with
        work := ⟨0xf56c7cf1#32, 0xd6819c6a#32, 0x5aa53f75#32, 0x374943a7#32⟩, step := 17#7 }) (fun t =>
      decide (t.work.a = 0x1c7d7513#32)) = true := by decide +kernel

/-- R155, step 33. -/
theorem test_stepH :
    nextIs (exec (.stepH 5#4 4#5) { emptyBlock with
        work := ⟨0x13707036#32, 0xa2205f1f#32, 0x1c31c384#32, 0xae7813db#32⟩, step := 33#7 }) (fun t =>
      decide (t.work.a = 0xdf63eaa1#32)) = true := by decide +kernel

/-- R156, step 64: roles b, c, d, a. -/
theorem test_stepI :
    nextIs (exec (.stepI 9#4 21#5) { emptyBlock with
        work := ⟨0x7246fad3#32, 0x30130182#32, 0xff4ea3eb#32, 0x6e10a476#32⟩, step := 64#7 }) (fun t =>
      decide (t.work.b = 0x14e45506#32 ∧ t.step = 65#7)) = true := by decide +kernel

/-- Vectors of 95_test_vectors.md section 2.3: the working registers before step 1 and after each of its round. -/
def traceOne : List Quad :=
  [
    ⟨0x67452301#32, 0xefcdab89#32, 0x98badcfe#32, 0x10325476#32⟩,
    ⟨0xa5202774#32, 0xefcdab89#32, 0x98badcfe#32, 0x10325476#32⟩,
    ⟨0xa5202774#32, 0xefcdab89#32, 0x98badcfe#32, 0xf59592dd#32⟩,
    ⟨0xa5202774#32, 0xefcdab89#32, 0xe7f06b23#32, 0xf59592dd#32⟩,
    ⟨0xa5202774#32, 0x1b163203#32, 0xe7f06b23#32, 0xf59592dd#32⟩,
    ⟨0x32033344#32, 0x1b163203#32, 0xe7f06b23#32, 0xf59592dd#32⟩,
    ⟨0x32033344#32, 0x1b163203#32, 0xe7f06b23#32, 0x2f35d494#32⟩,
    ⟨0x32033344#32, 0x1b163203#32, 0xf5b158db#32, 0x2f35d494#32⟩,
    ⟨0x32033344#32, 0x9bc13ce9#32, 0xf5b158db#32, 0x2f35d494#32⟩,
    ⟨0x3893b991#32, 0x9bc13ce9#32, 0xf5b158db#32, 0x2f35d494#32⟩,
    ⟨0x3893b991#32, 0x9bc13ce9#32, 0xf5b158db#32, 0xfce4a312#32⟩,
    ⟨0x3893b991#32, 0x9bc13ce9#32, 0xe1ef0576#32, 0xfce4a312#32⟩,
    ⟨0x3893b991#32, 0x70768a29#32, 0xe1ef0576#32, 0xfce4a312#32⟩,
    ⟨0xf56c7cf1#32, 0x70768a29#32, 0xe1ef0576#32, 0xfce4a312#32⟩,
    ⟨0xf56c7cf1#32, 0x70768a29#32, 0xe1ef0576#32, 0x374943a7#32⟩,
    ⟨0xf56c7cf1#32, 0x70768a29#32, 0x5aa53f75#32, 0x374943a7#32⟩,
    ⟨0xf56c7cf1#32, 0xd6819c6a#32, 0x5aa53f75#32, 0x374943a7#32⟩
  ]

theorem test_trace_round_one :
    follows emptyBlock 1
      [.cw1, .cw2, .cw3, .cw4, .cw5, .cw6, .cw7, .cw8, .cw9, .cw10, .cw11, .cw12, .cw13, .cw14, .cw15, .cw16]
      traceOne = true := by decide +kernel

/-- Vectors of 95_test_vectors.md section 2.3: the working registers before step 17 and after each of its round. -/
def traceTwo : List Quad :=
  [
    ⟨0xf56c7cf1#32, 0xd6819c6a#32, 0x5aa53f75#32, 0x374943a7#32⟩,
    ⟨0x1c7d7513#32, 0xd6819c6a#32, 0x5aa53f75#32, 0x374943a7#32⟩,
    ⟨0x1c7d7513#32, 0xd6819c6a#32, 0x5aa53f75#32, 0x7bd57a3a#32⟩,
    ⟨0x1c7d7513#32, 0xd6819c6a#32, 0xc095f13a#32, 0x7bd57a3a#32⟩,
    ⟨0x1c7d7513#32, 0xbd782e17#32, 0xc095f13a#32, 0x7bd57a3a#32⟩,
    ⟨0x3d1e3e6c#32, 0xbd782e17#32, 0xc095f13a#32, 0x7bd57a3a#32⟩,
    ⟨0x3d1e3e6c#32, 0xbd782e17#32, 0xc095f13a#32, 0x68b7b3e3#32⟩,
    ⟨0x3d1e3e6c#32, 0xbd782e17#32, 0xeb41643e#32, 0x68b7b3e3#32⟩,
    ⟨0x3d1e3e6c#32, 0xe422531a#32, 0xeb41643e#32, 0x68b7b3e3#32⟩,
    ⟨0x306ec122#32, 0xe422531a#32, 0xeb41643e#32, 0x68b7b3e3#32⟩,
    ⟨0x306ec122#32, 0xe422531a#32, 0xeb41643e#32, 0xd28c77c2#32⟩,
    ⟨0x306ec122#32, 0xe422531a#32, 0xa3c663da#32, 0xd28c77c2#32⟩,
    ⟨0x306ec122#32, 0xa0572807#32, 0xa3c663da#32, 0xd28c77c2#32⟩,
    ⟨0x13707036#32, 0xa0572807#32, 0xa3c663da#32, 0xd28c77c2#32⟩,
    ⟨0x13707036#32, 0xa0572807#32, 0xa3c663da#32, 0xae7813db#32⟩,
    ⟨0x13707036#32, 0xa0572807#32, 0x1c31c384#32, 0xae7813db#32⟩,
    ⟨0x13707036#32, 0xa2205f1f#32, 0x1c31c384#32, 0xae7813db#32⟩
  ]

theorem test_trace_round_two :
    follows emptyBlock 17
      [.cw17, .cw18, .cw19, .cw20, .cw21, .cw22, .cw23, .cw24, .cw25, .cw26, .cw27, .cw28, .cw29, .cw30, .cw31, .cw32]
      traceTwo = true := by decide +kernel

/-- Vectors of 95_test_vectors.md section 2.3: the working registers before step 33 and after each of its round. -/
def traceThree : List Quad :=
  [
    ⟨0x13707036#32, 0xa2205f1f#32, 0x1c31c384#32, 0xae7813db#32⟩,
    ⟨0xdf63eaa1#32, 0xa2205f1f#32, 0x1c31c384#32, 0xae7813db#32⟩,
    ⟨0xdf63eaa1#32, 0xa2205f1f#32, 0x1c31c384#32, 0xc3689f5b#32⟩,
    ⟨0xdf63eaa1#32, 0xa2205f1f#32, 0x12f3e755#32, 0xc3689f5b#32⟩,
    ⟨0xdf63eaa1#32, 0x004b6669#32, 0x12f3e755#32, 0xc3689f5b#32⟩,
    ⟨0x5f7a9b2e#32, 0x004b6669#32, 0x12f3e755#32, 0xc3689f5b#32⟩,
    ⟨0x5f7a9b2e#32, 0x004b6669#32, 0x12f3e755#32, 0xabc34e16#32⟩,
    ⟨0x5f7a9b2e#32, 0x004b6669#32, 0x91ca4cb7#32, 0xabc34e16#32⟩,
    ⟨0x5f7a9b2e#32, 0xc5dc8c15#32, 0x91ca4cb7#32, 0xabc34e16#32⟩,
    ⟨0x4497169d#32, 0xc5dc8c15#32, 0x91ca4cb7#32, 0xabc34e16#32⟩,
    ⟨0x4497169d#32, 0xc5dc8c15#32, 0x91ca4cb7#32, 0x76fd93d4#32⟩,
    ⟨0x4497169d#32, 0xc5dc8c15#32, 0xfd95f243#32, 0x76fd93d4#32⟩,
    ⟨0x4497169d#32, 0x0fe32453#32, 0xfd95f243#32, 0x76fd93d4#32⟩,
    ⟨0x3f55edfd#32, 0x0fe32453#32, 0xfd95f243#32, 0x76fd93d4#32⟩,
    ⟨0x3f55edfd#32, 0x0fe32453#32, 0xfd95f243#32, 0x22a31f54#32⟩,
    ⟨0x3f55edfd#32, 0x0fe32453#32, 0x68d84ea2#32, 0x22a31f54#32⟩,
    ⟨0x3f55edfd#32, 0xca7d2dbd#32, 0x68d84ea2#32, 0x22a31f54#32⟩
  ]

theorem test_trace_round_three :
    follows emptyBlock 33
      [.cw33, .cw34, .cw35, .cw36, .cw37, .cw38, .cw39, .cw40, .cw41, .cw42, .cw43, .cw44, .cw45, .cw46, .cw47, .cw48]
      traceThree = true := by decide +kernel

/-- Vectors of 95_test_vectors.md section 2.3: the working registers before step 49 and after each of its round. -/
def traceFour : List Quad :=
  [
    ⟨0x3f55edfd#32, 0xca7d2dbd#32, 0x68d84ea2#32, 0x22a31f54#32⟩,
    ⟨0x93aa2577#32, 0xca7d2dbd#32, 0x68d84ea2#32, 0x22a31f54#32⟩,
    ⟨0x93aa2577#32, 0xca7d2dbd#32, 0x68d84ea2#32, 0x1688dc85#32⟩,
    ⟨0x93aa2577#32, 0xca7d2dbd#32, 0xcd85b8cb#32, 0x1688dc85#32⟩,
    ⟨0x93aa2577#32, 0x561e0689#32, 0xcd85b8cb#32, 0x1688dc85#32⟩,
    ⟨0x5625a114#32, 0x561e0689#32, 0xcd85b8cb#32, 0x1688dc85#32⟩,
    ⟨0x5625a114#32, 0x561e0689#32, 0xcd85b8cb#32, 0x3450f42b#32⟩,
    ⟨0x5625a114#32, 0x561e0689#32, 0x392ad0d0#32, 0x3450f42b#32⟩,
    ⟨0x5625a114#32, 0x1e77fa61#32, 0x392ad0d0#32, 0x3450f42b#32⟩,
    ⟨0x474a9c8c#32, 0x1e77fa61#32, 0x392ad0d0#32, 0x3450f42b#32⟩,
    ⟨0x474a9c8c#32, 0x1e77fa61#32, 0x392ad0d0#32, 0xdfce00bc#32⟩,
    ⟨0x474a9c8c#32, 0x1e77fa61#32, 0x36594b14#32, 0xdfce00bc#32⟩,
    ⟨0x474a9c8c#32, 0x30130182#32, 0x36594b14#32, 0xdfce00bc#32⟩,
    ⟨0x7246fad3#32, 0x30130182#32, 0x36594b14#32, 0xdfce00bc#32⟩,
    ⟨0x7246fad3#32, 0x30130182#32, 0x36594b14#32, 0x6e10a476#32⟩,
    ⟨0x7246fad3#32, 0x30130182#32, 0xff4ea3eb#32, 0x6e10a476#32⟩,
    ⟨0x7246fad3#32, 0x14e45506#32, 0xff4ea3eb#32, 0x6e10a476#32⟩
  ]

theorem test_trace_round_four :
    follows emptyBlock 49
      [.cw49, .cw50, .cw51, .cw52, .cw53, .cw54, .cw55, .cw56, .cw57, .cw58, .cw59, .cw60, .cw61, .cw62, .cw63, .cw64]
      traceFour = true := by decide +kernel

/-- R158. -/
theorem test_chain :
    nextIs (exec .chain { State.reset with
        work := ⟨0x7246fad3#32, 0x14e45506#32, 0xff4ea3eb#32, 0x6e10a476#32⟩, step := 65#7 }) (fun t =>
      decide (t.step = 0#7 ∧
        t.digest = ⟨0xd98c1dd4#32, 0x04b2008f#32, 0x980980e9#32, 0x7e42f8ec#32⟩)) = true := by decide +kernel

/-- V-C3. -/
theorem test_compress_abc :
    nextIs (exec .compress loadedAbc) (fun t =>
      decide (t.digest = ⟨0x98500190#32, 0xb04fd23c#32, 0x7d3f96d6#32, 0x727fe128#32⟩)) = true := by decide +kernel

/-- V-C16: the same block a second time. -/
theorem test_compress_twice :
    nextIs (exec .compress (after (exec .compress loadedAbc))) (fun t =>
      decide (t.digest = ⟨0xc4a56d91#32, 0x1317cc0f#32, 0x52df5644#32, 0x72514c72#32⟩)) = true := by decide +kernel

/-! ## The sequencer, the fault, reset (95_test_vectors.md sections 2.6 and 3) -/

/-- V-D3: INIT in mid-message keeps the buffer. -/
theorem test_init_mid_message :
    nextIs (exec .init { latched with digest := ⟨1#32, 2#32, 3#32, 4#32⟩ }) (fun t =>
      decide (t.digest.a = 0x67452301#32 ∧ t.msize = 0#64 ∧ t.eodLatched = false ∧ t.bufWord 15 = 0x3f3e3d3c#32)) =
      true := by decide +kernel

/-- V-D2. -/
theorem test_digest_abc :
    nextIs (exec .digest { State.reset with digest := ⟨0x98500190#32, 0xb04fd23c#32, 0x7d3f96d6#32, 0x727fe128#32⟩ })
      (fun t => decide (t.result = some ⟨false, 0#2, .digest
        [0x90#8, 0x01#8, 0x50#8, 0x98#8, 0x3c#8, 0xd2#8, 0x4f#8, 0xb0#8,
         0xd6#8, 0x96#8, 0x3f#8, 0x7d#8, 0x28#8, 0xe1#8, 0x7f#8, 0x72#8]⟩)) = true := by decide +kernel

/-- P4: the second listed answer is not consumed. -/
theorem test_run_latched_end :
    nextIs (exec .run (fed [rising true, letters 5 false])) (fun t => decide (t.src.pending.length = 1 ∧
      t.digest = ⟨0x6bf5d3b2#32, 0x98fd97c1#32, 0x0765595d#32, 0x48715e9b#32⟩)) = true := by decide +kernel

/-- R114 on a stream of full chunks: READING, 512 bits counted, the next answer to come. -/
theorem test_next_on_stream :
    nextIs (exec .next endless) (fun t => decide (t.lstate = .reading ∧ t.msize = 512#64 ∧ t.fault = false ∧
      t.src = ⟨[], .stream 0 1 none⟩)) = true := by decide +kernel

/-- R183: against full chunks without end RUN does not end. -/
theorem test_run_on_endless_stream : exec .run endless = .fault .sourceEndless := by
  rw [exec, execRun, command_clear rfl, runLoop_endless _ rfl rfl ⟨rfl, rfl, 0, 0, rfl⟩]; rfl

/-- V-L15: NEXT in DONE. -/
theorem test_next_in_done :
    nextIs (exec .next loadedAbc) (fun t => decide (t.fault = true ∧ t.faultCode = 1#2 ∧ t.msize = 24#64 ∧
      t.lstate = .done ∧ t.bufWord 0 = 0x80636261#32)) = true := by decide +kernel

/-- V-D5: INIT does not clear the fault. -/
theorem test_init_while_faulted :
    nextIs (exec .init faulted) (fun t => decide (t.fault = true ∧ t.lstate = .done ∧ t.msize = 24#64)) = true := by
  decide +kernel

/-- V-D5: reset does. -/
theorem test_reset_clears_fault :
    nextIs (step { faulted with host := [.reset] }) (fun t => decide (t.fault = false ∧ t.lstate = .reading)) =
      true := by decide +kernel

/-- A core takes the machine's step. -/
theorem test_core_step : core.step core.reset = step State.reset := rfl

/-- An instruction placed after reset runs: a command, a store word, LATCH. -/
theorem test_placed_instructions_run :
    nextIs (step (State.reset.withFetchWord 8 0b000)) (fun t => decide (t.result = some ⟨false, 0#2, .nothing⟩)) =
      true ∧
    nextIs (step (State.reset.withFetchWord 16 0x36e)) (fun t => decide (t.step = 20#7)) = true ∧
    nextIs (step (State.reset.withFetchWord 0 0)) (fun t => decide (t.work.a = 0x67452301#32)) = true := by
  decide +kernel

/-! ## Witnesses: a state and operands that meet the hypotheses of each obligation -/

theorem test_witness_DecodeOfEncode :
    [Instr.init, .latch, .chain, .cw1, .cw64, .stepF 0#4 0#5, .stepG 15#4 31#5, .stepH 3#4 1#5, .stepI 15#4 0#5].all
      Instr.wf = true := by decide +kernel

theorem test_witness_ControlWordHasOneMeaning :
    Instr.cw19.wf = true ∧ encode .cw19 = .ctl 0x36e#11 ∧
    (Instr.stepF 3#4 7#5).wf = true ∧ encode (.stepF 3#4 7#5) = .ctl 0x067#11 := by decide +kernel

theorem test_witness_CommandCodes :
    ∃ (s u : State) (rest : List HostInput),
      (6 ≤ (6#3).toNat ∧ s.forced = none ∧ s.step = 0#7 ∧ s.host = .command 6#3 :: rest) ∧
      (6 ≤ (7#3).toNat ∧ u.forced = none ∧ u.step = 0#7 ∧ u.host = .command 7#3 :: rest) :=
  ⟨{ State.reset with host := [.command 6#3] }, { State.reset with host := [.command 7#3] }, [], by decide, by decide⟩

theorem test_witness_ControlStoreIsSchedule :
    (Rom.controlWord? 1 = some 0x007#11 ∧ Rom.controlWord? 64 = some 0x735#11) ∧
    messageIndex 1 = 0 ∧ messageIndex 48 = 2 ∧ messageIndex 64 = 9 ∧ amountOf 64 = 21 := by decide

theorem test_witness_AuxiliaryTruthTable :
    (aux .i 0#32 0#32 0#32).getLsbD 31 = true ∧ (aux .f 0#32 0#32 0#32).getLsbD 0 = false := by decide

theorem test_witness_RotationIsCircular :
    1 ≤ (1#5).toNat ∧ 1 ≤ (31#5).toNat ∧ (rotl32 0x80000000#32 1#5).getLsbD ((31 + 1) % 32) = true ∧
    Rom.controlWord? 64 = some 0x735#11 := by decide +kernel

theorem test_witness_RegisterRoles :
    [1, 2, 3, 4, 64].map (fun i => ((i - 1) % 4, roleA i)) = [(0, 0), (1, 3), (2, 2), (3, 1), (3, 1)] := by decide

theorem test_witness_WordViewIsLittleEndian :
    ((fed []).setBuf (Memory.write loadedAbc.buf 63 0x80#8)).bufWord 15 = 0x80000000#32 ∧
    ((fed []).setBuf (Memory.write loadedAbc.buf 0 0x01#8)).bufWord 0 = 0x80636201#32 := by decide +kernel

theorem test_witness_HasmoreAnswers : State.reset.fault = false ∧ faulted.fault = true := by decide +kernel

theorem test_witness_NextFullChunk :
    let s := fed [rising true]
    s.fault = false ∧ s.lstate = .reading ∧ s.eodLatched = false ∧
    sourceRead s.src = some (rising true, ⟨[], .ended⟩) ∧ (rising true).bytes.length = 64 := by decide +kernel

theorem test_witness_NextShortChunkFits :
    ∀ n ∈ [(0 : Fin 65), 55], let s := fed [letters n false]
      s.fault = false ∧ s.lstate = .reading ∧ s.eodLatched = false ∧
      sourceRead s.src = some (letters n false, ⟨[], .ended⟩) ∧ (letters n false).bytes.length ≤ 55 := by
  decide +kernel

theorem test_witness_NextShortChunkSpills :
    ∀ n ∈ [(56 : Fin 65), 63], let s := fed [letters n true]
      s.fault = false ∧ s.lstate = .reading ∧ s.eodLatched = false ∧
      sourceRead s.src = some (letters n true, ⟨[], .ended⟩) ∧
      56 ≤ (letters n true).bytes.length ∧ (letters n true).bytes.length ≤ 63 := by decide +kernel

theorem test_witness_NextLengthBlock : inPadding.fault = false ∧ inPadding.lstate = .padding := by decide +kernel

theorem test_witness_NextInDoneRaises : loadedAbc.fault = false ∧ loadedAbc.lstate = .done := by decide +kernel

theorem test_witness_NextAfterLatchedEnd :
    latched.fault = false ∧ latched.lstate = .reading ∧ latched.eodLatched = true ∧ (letters 0 true).bytes = [] ∧
    (letters 0 true).eod = true := by decide +kernel

theorem test_witness_SourceAnswersInOrder :
    unanswered.fault = false ∧ unanswered.lstate = .reading ∧ unanswered.eodLatched = false ∧
    unanswered.src = ⟨[], .silent⟩ := by decide

theorem test_witness_NextReadsAtMostOnce :
    [State.reset, faulted, inPadding, loadedAbc, latched].all (fun s => nextIs (exec .next s) fun _ => true) = true := by
  decide +kernel

theorem test_witness_NextWritesWholeBlock :
    [State.reset, inPadding, latched].all (fun s => !s.fault && nextIs (exec .next s) fun t => !t.fault) = true := by
  decide +kernel

theorem test_witness_LoaderTransitions :
    (nextIs (exec .next loadedAbc) (fun t => t.fault) = true ∧ loadedAbc.lstate = .done) ∧
    (nextIs (exec .next inPadding) (fun t => !t.fault) = true ∧ inPadding.lstate = .padding) ∧
    (nextIs (exec .next latched) (fun t => !t.fault) = true ∧ latched.lstate = .reading ∧ latched.eodLatched = true) ∧
    ∀ n ∈ [(0 : Fin 65), 55, 56, 63, 64], let s := fed [letters n false]
      nextIs (exec .next s) (fun t => !t.fault) = true ∧ s.lstate = .reading ∧ s.eodLatched = false ∧
      sourceRead s.src = some (letters n false, ⟨[], .ended⟩) := by decide +kernel

theorem test_witness_LastBlockHoldsLength :
    [fed [letters 55 true], inPadding, latched].all (fun s => decide (s.fault = false ∧ s.lstate ≠ .done) &&
      nextIs (exec .next s) fun t => decide (t.lstate = .done)) = true := by decide +kernel

theorem test_witness_BlockCount :
    let s := fed [letters 64 false, letters 56 true, abc]
    s.fault = false ∧ s.lstate = .reading ∧ s.eodLatched = false ∧
    s.src.pending = [letters 64 false] ++ letters 56 true :: [abc] ∧
    (∀ a ∈ [letters 64 false], a.bytes.length = 64 ∧ a.eod = false) ∧ EndsMessage (letters 56 true) ∧
    EndsMessage (letters 0 false) ∧ EndsMessage (letters 64 true) :=
  ⟨rfl, rfl, rfl, rfl, by decide +kernel, .inl (by decide), .inl (by decide), .inr rfl⟩

theorem test_witness_LatchCopiesState : State.reset.step = 0#7 := by decide

theorem test_witness_StepKindsWriteOneRegister :
    ∀ n ∈ [1#7, 64#7], let s := { State.reset with step := n }
      1 ≤ s.step.toNat ∧ s.step.toNat ≤ 64 := by decide

theorem test_witness_StoreEntriesFollowSchedule :
    (schedule.map (·.index) = (List.range 64).map (· + 1)) ∧
    ({ State.reset with step := 64#7 } : State).step.toNat = 64 := by decide

theorem test_witness_ChainAddsEntryState : ({ State.reset with step := 65#7 } : State).step = 65#7 := by decide

theorem test_witness_MicroOperationsNeedTheirStep :
    (∀ n ∈ [1#7, 65#7, 127#7], let s := { State.reset with step := n }
      s.step ≠ 0#7 ∧ s.fault = false) ∧
    (∀ n ∈ [0#7, 64#7, 66#7], let s := { State.reset with step := n }
      s.step ≠ 65#7) ∧
    (∀ n ∈ [0#7, 65#7, 127#7], let s := { State.reset with step := n }
      s.step.toNat = 0 ∨ 65 ≤ s.step.toNat) ∧
    (∀ r ∈ schedule, State.reset.step.toNat ≠ r.index) ∧
    (∀ n ∈ [66#7, 127#7], let s := { State.reset with step := n }
      s.forced = none ∧ s.resetNext = false ∧ 66 ≤ s.step.toNat) := by decide

theorem test_witness_ShiftingFormIsStep :
    Rom.controlWord? ({ State.reset with step := 1#7 } : State).step.toNat = some 0x007#11 ∧
    Rom.controlWord? ({ State.reset with step := 64#7 } : State).step.toNat = some 0x735#11 := by decide

theorem test_witness_CompressIsShiftingForm : loadedAbc.fault = false ∧ loadedAbc.step = 0#7 := by decide +kernel

theorem test_witness_RoundControllerRefinesCompress :
    loadedAbc.fault = false ∧ loadedAbc.step = 0#7 ∧ loadedAbc.forced = none ∧ loadedAbc.resetNext = false := by
  decide +kernel

theorem test_witness_CompressKnownAnswer :
    emptyBlock.fault = false ∧ emptyBlock.step = 0#7 ∧
    emptyBlock.digest = ⟨0x67452301#32, 0xefcdab89#32, 0x98badcfe#32, 0x10325476#32⟩ ∧
    emptyBlock.bufWord 0 = 0x00000080#32 ∧ (∀ k, k ≤ 15 → 1 ≤ k → emptyBlock.bufWord k = 0#32) := by decide +kernel

theorem test_witness_CompressDeterminedByBlock :
    let t := { loadedAbc with msize := 5#64, lstate := .reading }
    loadedAbc.fault = false ∧ t.fault = false ∧ loadedAbc.digest = t.digest ∧
    (∀ k, k < 16 → loadedAbc.bufWord k = t.bufWord k) ∧
    nextIs (exec .compress loadedAbc) (fun _ => true) = true ∧ nextIs (exec .compress t) (fun _ => true) = true := by
  decide +kernel

theorem test_witness_InitStartsMessage : State.reset.fault = false ∧ faulted.fault = true := by decide +kernel

theorem test_witness_DigestSerialises :
    State.reset.fault = false ∧ (State.reset.digest.get 0).extractLsb' (8 * 0) 8 = 0x01#8 ∧
    (State.reset.digest.get 3).extractLsb' (8 * 3) 8 = 0x10#8 := by decide

theorem test_witness_RunEndsWithSource :
    (loadedAbc.fault = false ∧ loadedAbc.step = 0#7 ∧ loadedAbc.lstate ≠ .reading) ∧
    (latched.fault = false ∧ latched.step = 0#7 ∧ latched.eodLatched = true) ∧
    Delivers (fed [letters 64 false]).src ∧ Delivers ⟨[letters 64 false, letters 64 true], .silent⟩ ∧
    Delivers ⟨[letters 64 false], .stream 0 0 (some 3)⟩ ∧
    (unanswered.fault = false ∧ unanswered.step = 0#7 ∧ unanswered.lstate = .reading ∧
      unanswered.eodLatched = false ∧ ¬ Delivers unanswered.src ∧ unanswered.src.tail = .silent) ∧
    (endless.fault = false ∧ endless.step = 0#7 ∧ endless.lstate = .reading ∧
      endless.eodLatched = false ∧ ¬ Delivers endless.src ∧ endless.src.tail ≠ .silent) :=
  ⟨by decide +kernel, by decide +kernel, .inl rfl, .inr (.inr ⟨letters 64 true, by simp, .inr rfl⟩),
    .inr (.inl ⟨0, 0, 3, rfl⟩), ⟨rfl, rfl, rfl, rfl, by simp [Delivers, unanswered], rfl⟩,
    ⟨rfl, rfl, rfl, rfl, by simp [Delivers, endless], by simp [endless]⟩⟩

theorem test_witness_RunIsLoop :
    (loadedAbc.fault = false ∧ loadedAbc.step = 0#7 ∧ loadedAbc.lstate = .done) ∧
    (inPadding.fault = false ∧ inPadding.step = 0#7 ∧ inPadding.lstate ≠ .done) := by decide +kernel

theorem test_witness_RunComputesDigest :
    let s := fed [letters 64 false, abc, letters 5 false]
    s.fault = false ∧ s.step = 0#7 ∧ s.lstate = .reading ∧ s.eodLatched = false ∧ s.msize = 0#64 ∧
    s.digest = ⟨0x67452301#32, 0xefcdab89#32, 0x98badcfe#32, 0x10325476#32⟩ ∧
    s.src.pending = [letters 64 false] ++ abc :: [letters 5 false] ∧
    (∀ a ∈ [letters 64 false], a.bytes.length = 64 ∧ a.eod = false) ∧ EndsMessage abc :=
  ⟨rfl, rfl, rfl, rfl, rfl, rfl, rfl, by decide +kernel, .inl (by decide)⟩

/-- The vocabulary of that statement against V-S3 and V-S1 of 95_test_vectors.md. -/
theorem test_md5_vocabulary :
    (md5 abc.bytes, md5 []) =
      (⟨0x98500190#32, 0xb04fd23c#32, 0x7d3f96d6#32, 0x727fe128#32⟩,
       ⟨0xd98c1dd4#32, 0x04b2008f#32, 0x980980e9#32, 0x7e42f8ec#32⟩) := by decide +kernel

theorem test_witness_FaultedCommandsDoNothing :
    faulted.fault = true ∧
    [Instr.init, .hasmore, .next, .compress, .digest, .run].all (·.isCommand) = true := by decide +kernel

theorem test_witness_OnlyNextInDoneFaults :
    loadedAbc.fault = false ∧ loadedAbc.lstate = .done ∧ nextIs (exec .next loadedAbc) (fun t => t.fault) = true := by
  decide +kernel

/-- A faulted state has the invariant. -/
theorem test_faulted_has_invariant : faulted.Inv where
  idle := by decide +kernel
  unforced := by decide +kernel
  latch := by decide +kernel
  code := by decide +kernel
  faultDone := by decide +kernel
  wholeBytes := by decide +kernel
  wf := by decide +kernel
  whole := .inr (by unfold Memory.full; decide +kernel)
  emitted := fun _ => by unfold Memory.full; decide +kernel

theorem test_witness_FaultIsSticky :
    faulted.Inv ∧ faulted.fault = true ∧ nextIs (step faulted) (fun _ => true) = true ∧ faulted.resetNext = false :=
  ⟨test_faulted_has_invariant, by decide +kernel, by decide +kernel, by decide +kernel⟩

theorem test_witness_AccessTable :
    [Instr.init, .hasmore, .next, .compress, .digest, .run, .latch].all
      (fun i => nextIs (exec i (fed [abc])) fun _ => true) = true ∧
    nextIs (exec .cw1 { emptyBlock with step := 1#7 }) (fun _ => true) = true ∧
    nextIs (exec .chain { emptyBlock with step := 65#7 }) (fun _ => true) = true := by decide +kernel

theorem test_witness_ResetFromAnywhere :
    let s := { faulted with step := 64#7, host := [.reset] }
    s.forced = none ∧ s.host = .reset :: [] := by decide +kernel

theorem test_witness_ResetAbandonsWaitingCommand :
    let s := { unanswered with host := [.command 0b010#3, .reset] }
    let u := { unanswered with host := [.command 0b010#3] }
    (s.forced = none ∧ s.step = 0#7 ∧ s.host = .command 0b010#3 :: .reset :: [] ∧
      decode (.cmd 0b010#3) = .ok .next ∧ decode (.cmd 0b101#3) = .ok .run) ∧
    exec .next { s with host := .reset :: [] } = .fault .sourceSilent ∧
    exec .run { s with host := .reset :: [] } = .fault .sourceSilent ∧
    u.host = .command 0b010#3 :: [] ∧ (∀ r, ([] : List HostInput) ≠ .reset :: r) ∧ u.fault = false ∧
      u.lstate = .reading ∧ u.eodLatched = false ∧ u.src = ⟨[], .silent⟩ :=
  ⟨by decide, rfl, rfl, rfl, (fun _ h => nomatch h), rfl, rfl, rfl, rfl⟩

theorem test_witness_ResetAbandonsWaitingCommand_endless :
    let s := { endless with host := [.command 0b101#3, .reset] }
    (s.forced = none ∧ s.step = 0#7 ∧ s.host = .command 0b101#3 :: .reset :: [] ∧
      decode (.cmd 0b101#3) = .ok .run) ∧
    exec .run { s with host := .reset :: [] } = .fault .sourceEndless :=
  ⟨⟨rfl, rfl, rfl, rfl⟩, by
    rw [exec, execRun, command_clear rfl, runLoop_endless _ rfl rfl ⟨rfl, rfl, 0, 0, rfl⟩]; rfl⟩

/-- With a command to come, the faulted state has the invariant too and takes a step. -/
theorem test_witness_StepKeepsInvariant :
    let s := { faulted with host := [.command 0b000#3] }
    s.Inv ∧ nextIs (step s) (fun _ => true) = true :=
  ⟨⟨test_faulted_has_invariant.1, test_faulted_has_invariant.2, test_faulted_has_invariant.3,
      test_faulted_has_invariant.4, test_faulted_has_invariant.5, test_faulted_has_invariant.6,
      test_faulted_has_invariant.7, test_faulted_has_invariant.8, test_faulted_has_invariant.9⟩,
    by decide +kernel⟩

theorem test_witness_StepCounterStaysInRange :
    let s := { emptyBlock with step := 64#7 }
    let u := { emptyBlock with step := 65#7 }
    (s.forced = none ∧ s.step.toNat ≤ 65 ∧ nextIs (step s) (fun t => decide (t.step = 65#7)) = true) ∧
    (u.forced = none ∧ u.step.toNat ≤ 65 ∧ nextIs (step u) (fun t => decide (t.step = 0#7)) = true) := by decide +kernel

theorem test_witness_LegalRunsNeverStop :
    let s := { faulted with host := [.command 5#3, .reset, .attach ⟨[abc], .ended⟩] }
    s.Inv ∧ s.src.tail = .ended ∧ ∀ x ∈ s.host, LegalInput x :=
  ⟨⟨test_faulted_has_invariant.1, test_faulted_has_invariant.2, test_faulted_has_invariant.3,
      test_faulted_has_invariant.4, test_faulted_has_invariant.5, test_faulted_has_invariant.6,
      test_faulted_has_invariant.7, test_faulted_has_invariant.8, test_faulted_has_invariant.9⟩,
    by decide +kernel, by simp [LegalInput]⟩

theorem test_witness_AnsweredRunsNeverStop :
    let s := { faulted with
      src := ⟨[abc], .stream 0 0 none⟩
      host := [.command 4#3, .reset, .attach ⟨[], .stream 1 0 (some 2)⟩] }
    s.Inv ∧ s.src.tail ≠ .silent ∧ ∀ x ∈ s.host, AnsweredInput x :=
  ⟨⟨test_faulted_has_invariant.1, test_faulted_has_invariant.2, test_faulted_has_invariant.3,
      test_faulted_has_invariant.4, test_faulted_has_invariant.5, test_faulted_has_invariant.6,
      test_faulted_has_invariant.7, test_faulted_has_invariant.8, test_faulted_has_invariant.9⟩,
    by simp, by simp [AnsweredInput]⟩

theorem test_witness_StepRunsDecoded :
    (let s := { State.reset with host := [.command 0b101#3] }
     s.forced = none ∧ s.step = 0#7 ∧ s.host = .command 0b101#3 :: [] ∧ decode (.cmd 0b101#3) = .ok .run) ∧
    (∀ r, ([] : List HostInput) ≠ .reset :: r) ∧
    (let s := { State.reset with step := 64#7 }
     s.forced = none ∧ s.step ≠ 0#7 ∧ s.resetNext = false ∧ controllerCode s.step = some (.ctl 0x735#11) ∧
      decode (.ctl 0x735#11) = .ok .cw64) ∧
    (let s := { State.reset with step := 65#7 }
     controllerCode s.step = some (.seq 65#7) ∧ decode (.seq 65#7) = .ok .chain) ∧
    (State.reset.forced = none ∧ State.reset.step = 0#7 ∧ State.reset.host = []) ∧
    (let s := { State.reset with host := [.attach ⟨[abc], .ended⟩] }
     s.host = .attach ⟨[abc], .ended⟩ :: []) :=
  ⟨by decide, (fun _ h => nomatch h), by decide, by decide, by decide, rfl⟩

theorem test_witness_PlacedInstructionRuns :
    State.reset.host = [] ∧ decodeTableWord 8 0b101 = some .run ∧ decodeTableWord 16 0x735 = some .cw64 ∧
    decodeTableWord 16 0x067 = some (.stepF 3#4 7#5) ∧ decodeTableWord 0 0 = some .latch ∧
    decodeTableWord 0 65 = some .chain := by decide +kernel

end Sys2Proof.Tests
end

section
/-! PROOFS. The round controller: at 1 to 64 it performs the store's own step, at 65 CHAIN, so that LATCH and 65 of its
steps are COMPRESS's body (00_scope.md R8; 41_engine.md R157). -/

namespace Sys2Proof.Machine

/-! ## The control store's words as instructions (30_encoding.md R85, R87) -/

/-- Each word of the store decodes to its own entry. -/
theorem decodeCtl_controlStore : ∀ i : Fin 64, decodeCtl Rom.controlStore[i] = entryInstrs[i] := by decide

/-- Each entry is performed as the step its word's fields say, at its index (41_engine.md R150). -/
theorem exec_entryInstrs (i : Fin 64) (s : State) :
    exec entryInstrs[i] s =
      entryStep (i + 1) (ctlFn Rom.controlStore[i]) (ctlK Rom.controlStore[i]) (ctlS Rom.controlStore[i]) s := by
  fin_cases i <;> rfl

/-- `CW[n]` is the store's word at place `n - 1`. -/
theorem controlWord?_eq_some {n : Nat} {w : BitVec 11} (h : Rom.controlWord? n = some w) :
    ∃ i : Fin 64, n = i + 1 ∧ w = Rom.controlStore[i] := by
  obtain ⟨h1, h2⟩ := (controlWord?_isSome n).mp (by rw [h]; rfl)
  obtain ⟨i, rfl⟩ : ∃ i, n = i + 1 := ⟨n - 1, by omega⟩
  obtain ⟨_, hw⟩ := List.getElem?_eq_some_iff.mp (h : Rom.controlStore[i]? = some w)
  exact ⟨⟨i, by omega⟩, rfl, hw.symm⟩

/-- The word of `CW[n]` decodes to an instruction that is the step of its fields at index `n`. -/
theorem exec_decodeCtl_entry {n : Nat} {w : BitVec 11} (h : Rom.controlWord? n = some w) (s : State) :
    exec (decodeCtl w) s = entryStep n (ctlFn w) (ctlK w) (ctlS w) s := by
  obtain ⟨i, rfl, rfl⟩ := controlWord?_eq_some h
  rw [decodeCtl_controlStore, exec_entryInstrs]

/-! ## One step of the round controller (41_engine.md R157) -/

/-- With nothing placed and no reset next, a busy engine takes the round controller's step. -/
theorem step_busy {s : State} (hf : s.forced = none) (hr : s.resetNext = false) (hs : s.step ≠ 0#7) :
    step s = stepController s := by
  simp [stepMachine, hf, hr, hs]

/-- At an index with a control word the round controller performs the store's step. -/
theorem stepController_store {s : State} (h1 : 1 ≤ s.step.toNat) (h64 : s.step.toNat ≤ 64) :
    stepController s = storeStep s := by
  obtain ⟨w, hw⟩ := Option.isSome_iff_exists.mp ((controlWord?_isSome _).mpr ⟨h1, h64⟩)
  calc stepController s = exec (decodeCtl w) s := by simp [stepController, controllerCode, hw, perform, decode]
    _ = engineStep (ctlFn w) (ctlK w) (ctlS w) s := by rw [exec_decodeCtl_entry hw, entryStep, if_pos rfl]
    _ = storeStep s := by simp [storeStep, hw]

/-- At 65 the round controller performs CHAIN. -/
theorem stepController_chain {s : State} (h : s.step = 65#7) : stepController s = execChain s := by
  have hc : controllerCode s.step = some (.seq 65#7) := by rw [h]; decide
  simp only [stepController, hc]
  exact perform_ok (i := .chain) rfl s

/-- Whether reset is next depends on the host's inputs alone. -/
theorem resetNext_congr {s t : State} (h : t.host = s.host) : t.resetNext = s.resetNext := by
  simp only [State.resetNext, h]

/-! ## The controller's run to the end of the block -/

/-- From `step = 65 - n` the next `n + 1` steps of the machine are `n` steps of the store and CHAIN, where nothing is
placed and no reset is next. -/
theorem runSteps_eq_storeSteps_chain (n : Nat) : ∀ {s : State}, s.forced = none → s.resetNext = false →
    1 ≤ s.step.toNat → s.step.toNat + n = 65 →
    runSteps (n + 1) s = andThen (storeSteps n s) execChain := by
  induction n with
  | zero =>
    intro s hf hr h1 h65
    have hs : s.step = 65#7 := BitVec.eq_of_toNat_eq h65
    have hc : execChain s = .next ((s.setDigest (s.digest.add s.work)).setStep 0#7) :=
      execChain_eq_next.mpr ⟨hs, rfl⟩
    rw [runSteps, step_busy hf hr (by rw [hs]; decide), stepController_chain hs, storeSteps, andThen_next, hc]
    rfl
  | succ n ih =>
    intro s hf hr h1 h65
    have hs : s.step ≠ 0#7 := by rintro h; simp [h] at h1
    obtain ⟨w, c, _, _, _, h64, e⟩ | ⟨hn, _⟩ := storeStep_cases s
    · obtain ⟨⟨_, _, _, _, _, _, _, hhost, hforced, _⟩, _, hstep⟩ := stepped_frame s (ctlFn w) (ctlK w) (ctlS w) c
      have hnat := step_succ h64
      rw [← hstep] at hnat
      rw [runSteps, step_busy hf hr hs, stepController_store h1 h64, storeSteps, e, andThen_next, andThen_next]
      exact ih (hforced.trans hf) ((resetNext_congr hhost).trans hr) (by omega) (by omega)
    · omega

/-- COMPRESS's body is LATCH and then 65 steps of the machine (R140, R157). -/
theorem compressBlock_eq_runSteps {s : State} (hs : s.step = 0#7) (hf : s.forced = none) (hr : s.resetNext = false) :
    compressBlock s = runSteps 65 ((s.setWork s.digest).setStep 1#7) := by
  have hl : execLatch s = .next ((s.setWork s.digest).setStep 1#7) := execLatch_eq_next.mpr ⟨hs, rfl⟩
  rw [compressBlock, hl, andThen_next]
  exact (runSteps_eq_storeSteps_chain 64 (s := (s.setWork s.digest).setStep 1#7) hf hr (by simp) (by simp)).symm

/-- Settles O31: both levels come to the end state of COMPRESS's body, to which COMPRESS adds its answer. -/
theorem roundControllerRefinesCompress : Obligations.RoundControllerRefinesCompress := by
  unfold Obligations.RoundControllerRefinesCompress
  intro s hfault hs hf hr
  obtain ⟨w, _, _, hu⟩ := compressBlock_next hs
  refine ⟨_, _, execLatch_eq_next.mpr ⟨hs, rfl⟩, (compressBlock_eq_runSteps hs hf hr).symm.trans hu, ?_⟩
  rw [exec, execCompress, command_clear hfault, hu, andThen_next]

end Sys2Proof.Machine
end

section
/-! PROOFS. The rotation is the library's `rotateLeft`, and the amounts of the control store (00_scope.md R13). -/

namespace Sys2Proof.Machine

/-- The two summands of R13 occupy disjoint bits: the low `32 - r` bits of `x` moved up, and its high `r` bits. -/
theorem rotation_sum_eq_or {x r : Nat} (hx : x < 2 ^ 32) (hr : r ≤ 32) :
    x * 2 ^ r % 2 ^ 32 + x / 2 ^ (32 - r) = x * 2 ^ r % 2 ^ 32 ||| x / 2 ^ (32 - r) := by
  have hpow : 2 ^ 32 = 2 ^ (32 - r) * 2 ^ r := by rw [← pow_add, Nat.sub_add_cancel hr]
  have hhigh : x / 2 ^ (32 - r) < 2 ^ r := Nat.div_lt_of_lt_mul (hpow ▸ hx)
  rw [hpow, Nat.mul_mod_mul_right, ← Nat.shiftLeft_eq, Nat.shiftLeft_add_eq_or_of_lt hhigh]

/-- The value of a left rotation by less than 32, in the form of R13. -/
theorem toNat_rotateLeft_word (x : Word) {r : Nat} (hr : r < 32) :
    (x.rotateLeft r).toNat = x.toNat * 2 ^ r % 2 ^ 32 + x.toNat / 2 ^ (32 - r) := by
  rw [BitVec.toNat_rotateLeft, Nat.mod_eq_of_lt hr, Nat.shiftLeft_eq, Nat.shiftRight_eq_div_pow,
    rotation_sum_eq_or x.isLt hr.le]

/-- The model's rotation by 1 to 31 is the library's. -/
theorem rotl32_eq_rotateLeft (x : Word) {s : BitVec 5} (hs : 1 ≤ s.toNat) : rotl32 x s = x.rotateLeft s.toNat := by
  have h0 : s ≠ 0#5 := by rintro rfl; simp at hs
  rw [rotl32, if_neg h0, ← toNat_rotateLeft_word x s.isLt, BitVec.ofNat_toNat, BitVec.setWidth_eq]

/-- A left rotation by `r` moves bit `j` to bit `(j + r) mod 32`. -/
theorem getLsbD_rotateLeft_word (x : Word) {r j : Nat} (hr : r < 32) (hj : j < 32) :
    (x.rotateLeft r).getLsbD ((j + r) % 32) = x.getLsbD j := by
  rw [BitVec.getLsbD_rotateLeft, Nat.mod_eq_of_lt hr]
  by_cases hwrap : j + r < 32
  · have hi : (j + r) % 32 = j + r := Nat.mod_eq_of_lt hwrap
    simp [hi, hwrap]
  · have hi : (j + r) % 32 = j + r - 32 := by omega
    have hlow : j + r - 32 < r := by omega
    have hback : 32 - r + (j + r - 32) = j := by omega
    simp [hi, hlow, hback]

/-- Every word of the control store rotates by one of the sixteen amounts of the schedule (41_engine.md R148). -/
theorem controlStore_amounts : ∀ i : Fin 64,
    (ctlS Rom.controlStore[i]).toNat ∈ [4, 5, 6, 7, 9, 10, 11, 12, 14, 15, 16, 17, 20, 21, 22, 23] := by decide

/-- Settles O8: the model's rotation is the library's, whose value and bits are known. -/
theorem rotationIsCircular : Obligations.RotationIsCircular := by
  unfold Obligations.RotationIsCircular
  refine ⟨fun x s hs => ?_, fun i w hw => ?_⟩
  · rw [rotl32_eq_rotateLeft x hs]
    exact ⟨toNat_rotateLeft_word x s.isLt, fun j hj => getLsbD_rotateLeft_word x s.isLt hj⟩
  · obtain ⟨j, _, rfl⟩ := controlWord?_eq_some hw
    exact controlStore_amounts j

end Sys2Proof.Machine
end

section
/-! PROOFS. What a completed instruction has done: a command its effect and then its answer, a micro-operation its own
write (30_encoding.md R81; 60_exceptions.md R203; 41_engine.md R151). -/

namespace Sys2Proof.Machine

variable {s t u : State}

/-! ## The answer of a command -/

/-- `t` is `u` with an answer to the host, and perhaps a free value drawn for it (30_encoding.md R81). -/
def Answered (u t : State) : Prop := ∃ r d, t = (u.setResult r).setDraws d

theorem complete_answered (u : State) (x : ResultData) : Answered u (u.complete x) :=
  ⟨some ⟨u.fault, u.faultCode, x⟩, u.draws, rfl⟩

theorem completeFree_answered (u : State) (x : Nat → ResultData) : Answered u (u.completeFree x) :=
  ⟨some ⟨u.fault, u.faultCode, x u.draws⟩, u.draws + 1, rfl⟩

theorem answered_of_next {x : ResultData}
    (h : (.next (u.complete x) : Host.Outcome State Fault Refusal) = .next t) : Answered u t := by
  cases h
  exact complete_answered u x

/-- An operation followed by its answer has done the operation. -/
theorem answered_of_andThen {o : Host.Outcome State Fault Refusal} {x : State → ResultData}
    (h : andThen o (fun u => .next (u.complete (x u))) = .next t) : ∃ u, o = .next u ∧ Answered u t := by
  obtain ⟨u, hu, ht⟩ := andThen_eq_next.mp h
  exact ⟨u, hu, answered_of_next ht⟩

/-! ## The effect of a command -/

/-- What a command has done to `s` when it comes to its answer, with `fault` clear. -/
inductive CommandEffect (s : State) : Instr → State → Prop
  | init : CommandEffect s .init s.initialise
  | hasmore : CommandEffect s .hasmore s
  | digest : CommandEffect s .digest s
  | next {u : State} (h : nextBlock s = .next u) : CommandEffect s .next u
  | compress {u : State} (h : compressBlock s = .next u) : CommandEffect s .compress u
  | run {u : State} (h : runLoop s.runFuel s = .next u) : CommandEffect s .run u

/-- A command under its check of `fault` (R203, R205): with `fault` set nothing but the answer, else its effect. -/
theorem command_effect {i : Instr} {f : State → State} {k : State → Host.Outcome State Fault Refusal}
    (h : command s f k = .next t) (hf : Answered s (f s))
    (hk : k s = .next t → ∃ u, CommandEffect s i u ∧ Answered u t) :
    ∃ u, Answered u t ∧ (s.fault = true ∧ u = s ∨ s.fault = false ∧ CommandEffect s i u) := by
  cases hs : s.fault with
  | true =>
    rw [command_faulted hs] at h
    cases h
    exact ⟨s, hf, .inl ⟨rfl, rfl⟩⟩
  | false =>
    obtain ⟨u, hu, ha⟩ := hk ((command_clear hs).symm.trans h)
    exact ⟨u, ha, .inr ⟨rfl, hu⟩⟩

/-- A command that completes has answered, after no effect with `fault` set and after its own with `fault` clear. -/
theorem exec_command_effect {i : Instr} (hc : i.isCommand = true) (h : exec i s = .next t) :
    ∃ u, Answered u t ∧ (s.fault = true ∧ u = s ∨ s.fault = false ∧ CommandEffect s i u) := by
  cases i with
  | init =>
    rw [exec, execInit] at h
    exact command_effect h (complete_answered s _) fun e => ⟨_, .init, answered_of_next e⟩
  | hasmore =>
    rw [exec, execHasmore] at h
    exact command_effect h (completeFree_answered s _) fun e => ⟨_, .hasmore, answered_of_next e⟩
  | digest =>
    rw [exec, execDigest] at h
    exact command_effect h (completeFree_answered s _) fun e => ⟨_, .digest, answered_of_next e⟩
  | next =>
    rw [exec, execNext] at h
    refine command_effect h (completeFree_answered s _) fun e => ?_
    obtain ⟨u, hu, ha⟩ := answered_of_andThen e
    exact ⟨u, .next hu, ha⟩
  | compress =>
    rw [exec, execCompress] at h
    refine command_effect h (complete_answered s _) fun e => ?_
    obtain ⟨u, hu, ha⟩ := answered_of_andThen e
    exact ⟨u, .compress hu, ha⟩
  | run =>
    rw [exec, execRun] at h
    refine command_effect h (complete_answered s _) fun e => ?_
    obtain ⟨u, hu, ha⟩ := answered_of_andThen e
    exact ⟨u, .run hu, ha⟩
  | _ => cases hc

/-! ## The micro-operations -/

/-- An instruction of the column STEP, a store entry among them, that completes is a step of the engine (30_encoding.md
R87). -/
theorem exec_step_engineStep {i : Instr} (hk : i.kind = .step) (h : exec i s = .next t) :
    ∃ fn k sh, engineStep fn k sh s = .next t := by
  cases i with
  | stepF k sh => exact ⟨.f, k, sh, h⟩
  | stepG k sh => exact ⟨.g, k, sh, h⟩
  | stepH k sh => exact ⟨.h, k, sh, h⟩
  | stepI k sh => exact ⟨.i, k, sh, h⟩
  | init | hasmore | next | compress | digest | run | latch | chain => cases hk
  | _ => exact ⟨_, _, _, (entryStep_eq_next.mp h).2⟩

/-- LATCH and CHAIN are the only instructions of their columns, and every other micro-operation is a step. -/
theorem microOperation_cases {i : Instr} (hc : i.isCommand = false) : i = .latch ∨ i = .chain ∨ i.kind = .step := by
  cases i with
  | latch => exact .inl rfl
  | chain => exact .inr (.inl rfl)
  | init | hasmore | next | compress | digest | run => cases hc
  | _ => exact .inr (.inr rfl)

/-! ## One step of the machine with nothing placed -/

/-- A command code that decodes is a command's (30_encoding.md R80). -/
theorem decodeCmd_isCommand {c : BitVec 3} {i : Instr} (h : decodeCmd c = .ok i) : i.isCommand = true := by
  unfold decodeCmd at h
  split at h <;> cases h <;> rfl

/-- A command code that is performed to a next state is executed as a command. -/
theorem perform_cmd_eq_next {c : BitVec 3} (h : perform (.cmd c) s = .next t) :
    ∃ i, i.isCommand = true ∧ exec i s = .next t := by
  cases hd : decode (.cmd c) with
  | ok i => exact ⟨i, decodeCmd_isCommand hd, perform_ok hd s ▸ h⟩
  | error r => rw [perform_error hd] at h; cases h

/-- A step with nothing placed comes to a reset; or it takes, with the engine idle, a command that completes or an input
that leaves all but the host's inputs and the source; or it is the round controller's. -/
theorem step_unforced_cases (hf : s.forced = none) (h : step s = .next t) :
    (∃ u : State, t = u.applyReset) ∨
    (s.step = 0#7 ∧ ∃ i rest, i.isCommand = true ∧ exec i (s.setHost rest) = .next t) ∨
    (s.step = 0#7 ∧ ∃ rest x, t = (s.setHost rest).setSrc x) ∨
    (s.step ≠ 0#7 ∧ stepController s = .next t) := by
  rw [step_eq] at h
  obtain ⟨c, hc, _⟩ | ⟨_, rest, _, e⟩ | ⟨_, hs, _, e⟩ | ⟨_, hs, hr, e⟩ := stepMachine_cases s
  · rw [hf] at hc; cases hc
  · exact .inl ⟨_, (Host.Outcome.next.inj (e.symm.trans h)).symm⟩
  · exact .inr (.inr (.inr ⟨hs, e.symm.trans h⟩))
  · rw [e] at h
    obtain ⟨_, e⟩ | ⟨c, rest, _, e⟩ | ⟨x, rest, _, e⟩ := stepHost_cases s hr
    · exact .inr (.inr (.inl ⟨hs, s.host, s.src, (Host.Outcome.next.inj (e.symm.trans h)).symm⟩))
    · rw [e] at h
      obtain e | ⟨_, _, _, e⟩ | ⟨_, _, _, e⟩ := unlessReset_cases (perform (.cmd c) (s.setHost rest)) (s.setHost rest)
      · obtain ⟨i, hi, hx⟩ := perform_cmd_eq_next (e.symm.trans h)
        exact .inr (.inl ⟨hs, i, rest, hi, hx⟩)
      · exact .inl ⟨_, (Host.Outcome.next.inj (e.symm.trans h)).symm⟩
      · exact .inl ⟨_, (Host.Outcome.next.inj (e.symm.trans h)).symm⟩
    · exact .inr (.inr (.inl ⟨hs, rest, x, (Host.Outcome.next.inj (e.symm.trans h)).symm⟩))

end Sys2Proof.Machine
end

section
/-! PROOFS. What NEXT and RUN keep, and the access table (10_state.md R24). -/

namespace Sys2Proof.Machine

variable {s t u : State}

/-! ## The buffer above its 64 bytes -/

/-- No cell at index 64 or above differs. -/
def SameAboveBlock (s t : State) : Prop := ∀ a, 64 ≤ a → Memory.read t.buf a = Memory.read s.buf a

theorem SameAboveBlock.trans (h : SameAboveBlock s t) (g : SameAboveBlock t u) : SameAboveBlock s u :=
  fun a ha => (g a ha).trans (h a ha)

theorem sameAboveBlock_of_buf (h : t.buf = s.buf) : SameAboveBlock s t := fun _ _ => by rw [h]

/-- Bytes written below `b` are not seen at `b`. -/
theorem read_writeBytes_above (m : Memory) {a b : Nat} {vs : List Byte} (h : a + vs.length ≤ b) :
    Memory.read (Memory.writeBytes m a vs) b = Memory.read m b := by
  rw [read_writeBytes, if_neg (by omega)]

theorem writeLength_sameAboveBlock (s : State) : SameAboveBlock s s.writeLength := by
  intro a ha
  rw [writeLength_buf]
  exact read_writeBytes_above s.buf (vs := lengthBytes s.msize) (by rw [lengthBytes_length]; omega)

theorem placeChunk_sameAboveBlock (s : State) {bytes : List Byte} (hl : bytes.length ≤ 64) :
    SameAboveBlock s (s.placeChunk bytes) := by
  intro a ha
  rw [placeChunk_buf, read_writeBytes_above _ (by omega)]

theorem padFrom_sameAboveBlock (s : State) {n : Nat} (hn : n ≤ 63) : SameAboveBlock s (s.padFrom n) := by
  intro a ha
  rw [padFrom_buf, read_writeBytes_above _ (by rw [List.length_replicate]; omega), read_write, if_neg (by omega)]

theorem lengthBlock_sameAboveBlock (s : State) : SameAboveBlock s s.lengthBlock := by
  intro a ha
  rw [State.lengthBlock, setLstate_buf, writeLength_sameAboveBlock _ a ha, setBuf_buf,
    read_writeBytes_above _ (by rw [List.length_replicate]; omega)]

theorem loadChunk_sameAboveBlock (s : State) {bytes : List Byte} (eod : Bool) (hl : bytes.length ≤ 64) :
    SameAboveBlock s (s.loadChunk bytes eod) := by
  have placed := placeChunk_sameAboveBlock s hl
  intro a ha
  unfold State.loadChunk
  dsimp only [Config.blockBytes, Config.lastFitting]
  split
  · rw [setEodLatched_buf, placed a ha]
  · have padded := placed.trans (padFrom_sameAboveBlock (s.placeChunk bytes) (n := bytes.length) (by omega))
    split
    · rw [setLstate_buf, writeLength_sameAboveBlock _ a ha, setEodLatched_buf, padded a ha]
    · rw [setLstate_buf, setEodLatched_buf, padded a ha]

/-! ## NEXT -/

/-- NEXT raises the fault in DONE and else writes the buffer's 64 bytes and the loader's registers alone (40_loader.md
R111, R121). -/
theorem nextBlock_frame (h : nextBlock s = .next t) :
    (s.lstate = .done ∧ t = s.raiseLoaderSeq) ∨
    (s.lstate ≠ .done ∧ SameOutsideLoader s t ∧ SameAboveBlock s t) := by
  obtain ⟨hl, e⟩ | ⟨hl, e⟩ | ⟨hl, _, e⟩ | ⟨hl, _, a, rest, _, e⟩ | ⟨_, _, _, e⟩ := nextBlock_cases s <;> rw [e] at h
  · exact .inl ⟨hl, (Host.Outcome.next.inj h).symm⟩
  · cases h
    exact .inr ⟨by simp [hl], (lengthBlock_frame s).1, lengthBlock_sameAboveBlock s⟩
  · cases h
    exact .inr ⟨by simp [hl], (loadChunk_frame s [] true).1, loadChunk_sameAboveBlock s true (Nat.zero_le 64)⟩
  · cases h
    exact .inr ⟨by simp [hl], (loadChunk_frame (s.setSrc rest) a.bytes a.eod).1,
      loadChunk_sameAboveBlock (s.setSrc rest) a.eod a.short⟩
  · cases h

/-! ## RUN -/

theorem runLoop_of_done (h : s.lstate = .done) (n : Nat) : runLoop n s = .next s := by
  cases n <;> simp [runLoop, h]

/-- What each pass of RUN's loop keeps, the loop keeps. -/
theorem runLoop_induction {P : State → Prop}
    (pass : ∀ s t, s.lstate ≠ .done → absorb s = .next t → P s → P t) (n : Nat) :
    ∀ {s t : State}, runLoop n s = .next t → P s → P t := by
  induction n with
  | zero =>
    intro s t h hs
    by_cases hd : s.lstate = .done
    · rw [runLoop_of_done hd] at h; cases h; exact hs
    · simp [runLoop, hd] at h
  | succ n ih =>
    intro s t h hs
    by_cases hd : s.lstate = .done
    · rw [runLoop_of_done hd] at h; cases h; exact hs
    · rw [runLoop, if_neg hd, andThen_eq_next] at h
      obtain ⟨u, hu, ht⟩ := h
      exact ih ht (pass s u hd hu hs)

/-- RUN's loop leaves `step`, the fault, the host's side and the buffer above its 64 bytes as they were. -/
def SameOutsideRun (s t : State) : Prop :=
  t.step = s.step ∧ t.fault = s.fault ∧ t.faultCode = s.faultCode ∧ t.host = s.host ∧ t.forced = s.forced ∧
  t.resets = s.resets ∧ SameAboveBlock s t

theorem absorb_frame (hd : s.lstate ≠ .done) (h : absorb s = .next t) : SameOutsideRun s t := by
  obtain ⟨u, hu, ht⟩ := andThen_eq_next.mp h
  obtain ⟨⟨cbuf, _, _, _, cfault, ccode, _, chost, cforced, _, cresets, _⟩, ustep, tstep⟩ := compressBlock_frame ht
  obtain ⟨hd', _⟩ | ⟨_, ⟨_, _, nstep, nfault, ncode, nhost, nforced, _, nresets, _⟩, nabove⟩ := nextBlock_frame hu
  · exact absurd hd' hd
  · exact ⟨tstep.trans (ustep.symm.trans nstep), cfault.trans nfault, ccode.trans ncode, chost.trans nhost,
      cforced.trans nforced, cresets.trans nresets, nabove.trans (sameAboveBlock_of_buf cbuf)⟩

theorem runLoop_frame {n : Nat} (h : runLoop n s = .next t) : SameOutsideRun s t := by
  have start : SameOutsideRun s s := by simp [SameOutsideRun, SameAboveBlock]
  refine runLoop_induction (P := SameOutsideRun s) (fun u v hd huv hu => ?_) n h start
  obtain ⟨h1, h2, h3, h4, h5, h6, h7⟩ := hu
  obtain ⟨g1, g2, g3, g4, g5, g6, g7⟩ := absorb_frame hd huv
  exact ⟨g1.trans h1, g2.trans h2, g3.trans h3, g4.trans h4, g5.trans h5, g6.trans h6, h7.trans g7⟩

/-! ## The access table -/

/-- Settles O42, from what the completed instruction has done: a command its effect before the answer, a micro-operation
its own write. -/
theorem accessTable : Obligations.AccessTable := by
  unfold Obligations.AccessTable
  intro i s t h
  cases hc : i.isCommand with
  | true =>
    obtain ⟨u, ⟨r, d, rfl⟩, ⟨_, rfl⟩ | ⟨_, effect⟩⟩ := exec_command_effect hc h
    · simp [State.bufByte]
    · cases effect with
      | init => simp [State.bufByte, State.initialise, Instr.kind]
      | hasmore | digest => simp [State.bufByte]
      | compress hu =>
        obtain ⟨hsame, hs, hu⟩ := compressBlock_frame hu
        unfold SameOutsideEngine at hsame
        simp [State.bufByte, Instr.kind, hsame, hs, hu]
      | run hu =>
        obtain ⟨h1, h2, h3, h4, h5, h6, h7⟩ := runLoop_frame hu
        simp +contextual [State.bufByte, Instr.kind, h1, h2, h3, h4, h5, h6, h7 _]
      | next hu =>
        obtain ⟨_, rfl⟩ | ⟨_, h1, h2⟩ := nextBlock_frame hu
        · simp [State.bufByte, Instr.kind]
        · unfold SameOutsideLoader at h1
          simp +contextual [State.bufByte, Instr.kind, h1, h2 _]
  | false =>
    obtain rfl | rfl | hk := microOperation_cases hc
    · obtain ⟨_, rfl⟩ := execLatch_eq_next.mp h
      simp [State.bufByte, Instr.kind]
    · obtain ⟨_, rfl⟩ := execChain_eq_next.mp h
      simp [State.bufByte, Instr.kind]
    · obtain ⟨fn, k, sh, e⟩ := exec_step_engineStep hk h
      obtain ⟨hsame, hd, _⟩ := engineStep_frame e
      unfold SameOutsideEngine at hsame
      simp [State.bufByte, hk, hsame, hd]

end Sys2Proof.Machine
end

section
/-! PROOFS. The invariant of the states between commands (10_state.md R38) and the range of the step counter (R29). -/

namespace Sys2Proof.Machine

variable {s t u : State}

/-! ## The state after reset -/

/-- Settles O43: the fields of the state after reset stand in its definition. -/
theorem resetState : Obligations.ResetState := by
  unfold Obligations.ResetState
  exact ⟨rfl, rfl, rfl, rfl, rfl, rfl, rfl, rfl⟩

/-- Settles O46: the loader is in READING with nothing written, and every flag and counter is 0. -/
theorem resetHasInvariant : Obligations.ResetHasInvariant where
  idle := rfl
  unforced := rfl
  latch := nofun
  code := rfl
  faultDone := nofun
  wholeBytes := rfl
  wf := rfl
  whole := .inl rfl
  emitted := fun h => absurd rfl h

/-! ## The fields the invariant speaks of -/

/-- The invariant depends on the loader's, the fault's and the sequencing registers and on the buffer alone. -/
theorem State.Inv.congr (h : s.Inv) (hstep : t.step = s.step) (hforced : t.forced = s.forced)
    (hlatch : t.eodLatched = s.eodLatched) (hlstate : t.lstate = s.lstate) (hfault : t.fault = s.fault)
    (hcode : t.faultCode = s.faultCode) (hmsize : t.msize = s.msize) (hbuf : t.buf = s.buf) : t.Inv where
  idle := hstep.trans h.idle
  unforced := hforced.trans h.unforced
  latch := by rw [hlatch, hlstate]; exact h.latch
  code := by rw [hcode, hfault]; exact h.code
  faultDone := by rw [hfault, hlstate]; exact h.faultDone
  wholeBytes := by rw [hmsize]; exact h.wholeBytes
  wf := by rw [hbuf]; exact h.wf
  whole := by rw [hbuf]; exact h.whole
  emitted := by rw [hlstate, hbuf]; exact h.emitted

theorem applyReset_inv (s : State) : s.applyReset.Inv :=
  State.Inv.congr (s := State.reset) resetHasInvariant rfl rfl rfl rfl rfl rfl rfl rfl

theorem Answered.inv (ha : Answered u t) (h : u.Inv) : t.Inv := by
  obtain ⟨r, d, rfl⟩ := ha
  exact h.congr rfl rfl rfl rfl rfl rfl rfl rfl

/-- INIT, with `fault` clear, starts a message in READING (42_driver.md R180). -/
theorem initialise_inv (h : s.Inv) (hf : s.fault = false) : s.initialise.Inv where
  idle := h.idle
  unforced := h.unforced
  latch := nofun
  code := h.code
  faultDone := fun hf' => absurd (hf'.symm.trans hf) (by decide)
  wholeBytes := rfl
  wf := h.wf
  whole := h.whole
  emitted := fun hl => absurd rfl hl

/-! ## NEXT keeps the invariant -/

/-- NEXT in READING writes all 64 bytes of the buffer (40_loader.md R111). -/
theorem loadChunk_full (s : State) {bytes : List Byte} (eod : Bool) (hl : bytes.length ≤ 64) :
    Memory.full (s.loadChunk bytes eod).buf := by
  intro a ha
  by_cases h64 : bytes.length = 64
  · rw [loadChunk_full_read s eod h64, if_pos ha]
    simp [h64, ha]
  by_cases h55 : bytes.length ≤ 55
  · rw [loadChunk_fits_read s eod h55 ha]
    split_ifs with h1 h2 h3
    · simp [h1]
    · rfl
    · rfl
    · rw [isSome_getElem?, lengthBytes_length]; omega
  · rw [loadChunk_nofit_read s eod (by omega) h55 ha]
    split_ifs with h1 h2
    · simp [h1]
    · rfl
    · rfl

/-- NEXT in PADDING writes all 64 bytes of the buffer (R111, R120). -/
theorem lengthBlock_full (s : State) : Memory.full s.lengthBlock.buf := by
  intro a ha
  rw [lengthBlock_read s ha]
  split_ifs with h
  · rfl
  · rw [isSome_getElem?, lengthBytes_length]; omega

/-- The counter goes on counting whole bytes (10_state.md R27). -/
theorem wholeBytes_add {n : Count} (h : n.toNat % 8 = 0) (k : Nat) : (n + BitVec.ofNat 64 (8 * k)).toNat % 8 = 0 := by
  rw [BitVec.toNat_add, BitVec.toNat_ofNat]
  omega

/-- NEXT in READING, whatever chunk of at most 64 bytes it is given. -/
theorem loadChunk_inv (h : s.Inv) (hr : s.lstate = .reading) {bytes : List Byte} (eod : Bool)
    (hl : bytes.length ≤ 64) : (s.loadChunk bytes eod).Inv := by
  obtain ⟨⟨_, _, hstep, hfault, hcode, _, hforced, _⟩, hmsize, _⟩ := loadChunk_frame s bytes eod
  obtain ⟨cfull, cfits, cspills⟩ := loadChunk_control s bytes eod
  have hclear : s.fault ≠ true := fun hf => by simpa [hr] using h.faultDone hf
  exact {
    idle := hstep.trans h.idle
    unforced := hforced.trans h.unforced
    latch := fun he => by
      by_cases h64 : bytes.length = 64
      · exact (cfull h64).1.trans hr
      · exfalso
        by_cases h55 : bytes.length ≤ 55
        · simp [(cfits h55).2] at he
        · simp [(cspills h64 h55).2] at he
    code := by rw [hcode, hfault]; exact h.code
    faultDone := fun hf => absurd (hfault ▸ hf) hclear
    wholeBytes := by rw [hmsize]; exact wholeBytes_add h.wholeBytes _
    wf := loadChunk_wf eod hl h.wf
    whole := .inr (loadChunk_full s eod hl)
    emitted := fun _ => loadChunk_full s eod hl }

/-- NEXT in PADDING. -/
theorem lengthBlock_inv (h : s.Inv) (hp : s.lstate = .padding) : s.lengthBlock.Inv := by
  obtain ⟨⟨_, _, hstep, hfault, hcode, _, hforced, _⟩, hmsize, hlatch, _, hdone⟩ := lengthBlock_frame s
  exact {
    idle := hstep.trans h.idle
    unforced := hforced.trans h.unforced
    latch := fun he => by simpa [hp] using h.latch (hlatch ▸ he)
    code := by rw [hcode, hfault]; exact h.code
    faultDone := fun _ => hdone
    wholeBytes := by rw [hmsize]; exact h.wholeBytes
    wf := lengthBlock_wf h.wf
    whole := .inr (lengthBlock_full s)
    emitted := fun _ => lengthBlock_full s }

/-- The fault raised in DONE comes with its code (60_exceptions.md R200, R201). -/
theorem raiseLoaderSeq_inv (h : s.Inv) (hd : s.lstate = .done) : s.raiseLoaderSeq.Inv where
  idle := h.idle
  unforced := h.unforced
  latch := h.latch
  code := rfl
  faultDone := fun _ => hd
  wholeBytes := h.wholeBytes
  wf := h.wf
  whole := h.whole
  emitted := h.emitted

theorem nextBlock_inv (h : s.Inv) (e : nextBlock s = .next t) : t.Inv := by
  obtain ⟨hl, e'⟩ | ⟨hl, e'⟩ | ⟨hl, _, e'⟩ | ⟨hl, _, a, rest, _, e'⟩ | ⟨_, _, _, e'⟩ := nextBlock_cases s <;>
    rw [e'] at e <;> cases e
  · exact raiseLoaderSeq_inv h hl
  · exact lengthBlock_inv h hl
  · exact loadChunk_inv h hl true (Nat.zero_le 64)
  · have hsrc : (s.setSrc rest).Inv := h.congr rfl rfl rfl rfl rfl rfl rfl rfl
    exact loadChunk_inv hsrc hl a.eod a.short

/-! ## COMPRESS, RUN and every command keep it -/

theorem compressBlock_inv (h : s.Inv) (e : compressBlock s = .next t) : t.Inv := by
  obtain ⟨⟨hbuf, hlstate, hmsize, hlatch, hfault, hcode, _, _, hforced, _⟩, hs, ht⟩ := compressBlock_frame e
  exact h.congr (ht.trans hs.symm) hforced hlatch hlstate hfault hcode hmsize hbuf

theorem absorb_inv (h : s.Inv) (e : absorb s = .next t) : t.Inv := by
  obtain ⟨u, hu, ht⟩ := andThen_eq_next.mp e
  exact compressBlock_inv (nextBlock_inv h hu) ht

theorem CommandEffect.inv {i : Instr} (h : s.Inv) (hf : s.fault = false) (e : CommandEffect s i u) : u.Inv := by
  cases e with
  | init => exact initialise_inv h hf
  | hasmore | digest => exact h
  | next e => exact nextBlock_inv h e
  | compress e => exact compressBlock_inv h e
  | run e => exact runLoop_induction (fun _ _ _ e' h' => absorb_inv h' e') _ e h

theorem exec_command_inv {i : Instr} (hc : i.isCommand = true) (h : s.Inv) (e : exec i s = .next t) : t.Inv := by
  obtain ⟨u, ha, ⟨_, rfl⟩ | ⟨hf, effect⟩⟩ := exec_command_effect hc e
  · exact ha.inv h
  · exact ha.inv (effect.inv h hf)

/-! ## One step of the machine -/

/-- Settles O47: a state with the invariant has nothing placed and the engine idle, so a step is a reset, a command or
another input of the host. -/
theorem stepKeepsInvariant : Obligations.StepKeepsInvariant := by
  unfold Obligations.StepKeepsInvariant
  intro s t h e
  obtain ⟨u, rfl⟩ | ⟨_, i, rest, hc, e⟩ | ⟨_, rest, x, rfl⟩ | ⟨hbusy, _⟩ := step_unforced_cases h.unforced e
  · exact applyReset_inv u
  · have hhost : (s.setHost rest).Inv := h.congr rfl rfl rfl rfl rfl rfl rfl rfl
    exact exec_command_inv hc hhost e
  · exact h.congr rfl rfl rfl rfl rfl rfl rfl rfl
  · exact absurd h.idle hbusy

/-- A command leaves `step` as it was (10_state.md R24). -/
theorem exec_command_step {i : Instr} (hc : i.isCommand = true) (e : exec i s = .next t) : t.step = s.step := by
  obtain ⟨_, _, _, _, _, hstep, _⟩ := accessTable i s t e
  refine hstep fun hk => ?_
  simp only [List.mem_cons, List.not_mem_nil, or_false] at hk
  obtain hk | hk | hk := hk <;> simp [Instr.isCommand, hk] at hc

/-- The round controller counts from 1 to 65 and then back to 0 (41_engine.md R157). -/
theorem stepController_step (hs : s.step ≠ 0#7) (h65 : s.step.toNat ≤ 65) (e : stepController s = .next t) :
    t.step.toNat ≤ 65 := by
  by_cases hc : s.step = 65#7
  · rw [stepController_chain hc] at e
    obtain ⟨_, rfl⟩ := execChain_eq_next.mp e
    simp
  · have h1 : 1 ≤ s.step.toNat := by bv_omega
    have h64 : s.step.toNat ≤ 64 := by bv_omega
    rw [stepController_store h1 h64] at e
    obtain ⟨w, c, _, _, _, _, e'⟩ | ⟨_, e'⟩ := storeStep_cases s <;> rw [e'] at e <;> cases e
    rw [(stepped_frame s (ctlFn w) (ctlK w) (ctlS w) c).2.2, step_succ h64]
    omega

/-- Settles O48: with the engine idle `step` stays 0, with it busy the round controller counts. -/
theorem stepCounterStaysInRange : Obligations.StepCounterStaysInRange := by
  unfold Obligations.StepCounterStaysInRange
  intro s t hf h65 e
  obtain ⟨u, rfl⟩ | ⟨_, i, rest, hc, e⟩ | ⟨_, rest, x, rfl⟩ | ⟨hbusy, e⟩ := step_unforced_cases hf e
  · simp
  · rw [exec_command_step hc e]; exact h65
  · exact h65
  · exact stepController_step hbusy h65 e

end Sys2Proof.Machine
end

section
/-! PROOFS. The Word view of the buffer, byte by byte and bit by bit (20_memory.md R51). -/

namespace Sys2Proof.Machine

/-- The value of a concatenation: the upper part counts above the lower part's bits. -/
theorem toNat_append_eq_add {m n : Nat} (x : BitVec m) (y : BitVec n) :
    (x ++ y).toNat = 2 ^ n * x.toNat + y.toNat := by
  rw [BitVec.toNat_append, ← Nat.shiftLeft_add_eq_or_of_lt y.isLt, Nat.shiftLeft_eq, Nat.mul_comm]

/-- The value of the Word of four bytes. -/
theorem toNat_wordOfBytes (b0 b1 b2 b3 : Byte) :
    (wordOfBytes b0 b1 b2 b3).toNat =
      b0.toNat + 2 ^ 8 * b1.toNat + 2 ^ 16 * b2.toNat + 2 ^ 24 * b3.toNat := by
  simp only [wordOfBytes, toNat_append_eq_add]
  omega

/-- Bit `b` of `M[k]` is bit `b mod 8` of `buf[4k + b div 8]`. -/
theorem getLsbD_bufWord (s : State) (k : Nat) {b : Nat} (hb : b < 32) :
    (s.bufWord k).getLsbD b = (s.bufByte (4 * k + b / 8)).getLsbD (b % 8) := by
  simp only [State.bufWord, wordOfBytes, BitVec.getLsbD_append]
  obtain h | h | h | h : b / 8 = 0 ∨ b / 8 = 1 ∨ b / 8 = 2 ∨ b / 8 = 3 := by omega
  · have h8 : b < 8 := by omega
    rw [h, if_pos h8, Nat.mod_eq_of_lt h8, Nat.add_zero]
  · rw [h, if_neg (by omega), if_pos (by omega), show b - 8 = b % 8 by omega]
  · rw [h, if_neg (by omega), if_neg (by omega), if_pos (by omega), show b - 8 - 8 = b % 8 by omega]
  · rw [h, if_neg (by omega), if_neg (by omega), if_neg (by omega), show b - 8 - 8 - 8 = b % 8 by omega]

/-- A written byte is read back at its index, and every other byte reads as before. -/
theorem bufByte_write (s : State) (j a : Nat) (v : Byte) :
    (s.setBuf (Memory.write s.buf j v)).bufByte a = if j = a then v else s.bufByte a := by
  by_cases h : j = a <;> simp [State.bufByte, read_write, h]

/-- Settles O10: a bit of a Word is a bit of one byte of the buffer, so a byte write changes the bits of its byte. -/
theorem wordViewIsLittleEndian : Obligations.WordViewIsLittleEndian := by
  unfold Obligations.WordViewIsLittleEndian
  refine ⟨fun s k _ => toNat_wordOfBytes _ _ _ _, fun s j v _ k b _ hb => ?_, fun s j a v ha => ?_⟩
  · have hbyte : j = 4 * k + b / 8 ↔ k = j / 4 ∧ b / 8 = j % 4 := by omega
    rw [getLsbD_bufWord _ k hb, getLsbD_bufWord s k hb, bufByte_write]
    simp only [hbyte]
    split_ifs <;> rfl
  · rw [bufByte_write, if_neg ha.symm]

end Sys2Proof.Machine
end

section
/-! PROOFS. The byte source under NEXT, and runs of commands against a source that does not fall silent (20_memory.md R56
to R62). -/

namespace Sys2Proof.Machine

variable {s t : State} {o : Host.Outcome State Fault Refusal} {k : State → Host.Outcome State Fault Refusal}

/-! ## The source under NEXT -/

/-- Settles O18: each answer is the port's own; the silent source answers no read of NEXT. -/
theorem sourceAnswersInOrder : Obligations.SourceAnswersInOrder := by
  unfold Obligations.SourceAnswersInOrder
  refine ⟨fun _ _ _ => rfl, ⟨emptyAnswer, rfl, rfl, rfl⟩,
    fun id read => ⟨streamChunk id read, streamChunk_length id read, rfl, rfl, fun _ => rfl⟩,
    fun id read => ⟨streamEnd id read, _, streamEnd_ends id read, rfl⟩, fun s hf hl he hsrc => ?_⟩
  have hread : sourceRead s.src = none := by rw [hsrc]; rfl
  have hnext : nextBlock s = .fault .sourceSilent := by simp [nextBlock, hl, he, hread]
  rw [exec, execNext, command_clear hf, hnext, andThen_fault]

/-- NEXT's body leaves the source, or reads it once in READING without the latch (40_loader.md R127). -/
theorem nextBlock_src (h : nextBlock s = .next t) :
    t.src = s.src ∨
    (s.lstate = .reading ∧ s.eodLatched = false ∧ ∃ a, sourceRead s.src = some (a, t.src)) := by
  obtain ⟨_, e⟩ | ⟨_, e⟩ | ⟨_, _, e⟩ | ⟨hl, he, a, rest, hr, e⟩ | ⟨_, _, _, e⟩ := nextBlock_cases s <;>
    rw [e] at h <;> cases h
  · exact .inl rfl
  · obtain ⟨_, _, _, hsrc, _⟩ := lengthBlock_frame s
    exact .inl hsrc
  · obtain ⟨_, _, hsrc⟩ := loadChunk_frame s [] true
    exact .inl hsrc
  · obtain ⟨_, _, hsrc⟩ := loadChunk_frame (s.setSrc rest) a.bytes a.eod
    exact .inr ⟨hl, he, a, by rw [hsrc]; exact hr⟩

/-- Settles O19: with `fault` set NEXT has no effect, and else its body reads the source at most once. -/
theorem nextReadsAtMostOnce : Obligations.NextReadsAtMostOnce := by
  unfold Obligations.NextReadsAtMostOnce
  intro s t h
  obtain ⟨u, ⟨_, _, rfl⟩, ⟨_, rfl⟩ | ⟨hf, effect⟩⟩ := exec_command_effect (i := .next) rfl h
  · exact ⟨.inl rfl, fun _ => rfl⟩
  · cases effect with | next hu =>
    obtain hsrc | ⟨hl, he, hread⟩ := nextBlock_src hu
    · exact ⟨.inl hsrc, fun _ => hsrc⟩
    · exact ⟨.inr hread, fun hno => by simp [hf, hl, he] at hno⟩

/-! ## Commands that go -/

theorem command_goes {f : State → State} (h : Goes (k s)) : Goes (command s f k) := by
  cases hf : s.fault with
  | true => exact ⟨_, command_faulted hf⟩
  | false => rwa [command_clear hf]

theorem andThen_goes (ho : Goes o) (hk : ∀ u, Goes (k u)) : Goes (andThen o k) := by
  obtain ⟨u, rfl⟩ := ho
  exact hk u

/-- NEXT's body goes where the source has not fallen silent, whatever it answers (40_loader.md R112). -/
theorem nextBlock_goes (h : s.src.tail ≠ .silent) : Goes (nextBlock s) := by
  obtain ⟨a, rest, hread, _⟩ := sourceRead_answers h
  obtain ⟨_, e⟩ | ⟨_, e⟩ | ⟨_, _, e⟩ | ⟨_, _, _, _, _, e⟩ | ⟨_, _, hnone, _⟩ := nextBlock_cases s
  · exact ⟨_, e⟩
  · exact ⟨_, e⟩
  · exact ⟨_, e⟩
  · exact ⟨_, e⟩
  · rw [hread] at hnone; cases hnone

/-- A command other than RUN goes with the engine idle and a source that has not fallen silent. -/
theorem exec_command_goes {i : Instr} (hc : i.isCommand = true) (hrun : i ≠ .run) (hs : s.step = 0#7)
    (h : s.src.tail ≠ .silent) : Goes (exec i s) := by
  cases i with
  | init => rw [exec, execInit]; exact command_goes ⟨_, rfl⟩
  | hasmore => rw [exec, execHasmore]; exact command_goes ⟨_, rfl⟩
  | digest => rw [exec, execDigest]; exact command_goes ⟨_, rfl⟩
  | next =>
    rw [exec, execNext]
    exact command_goes (andThen_goes (nextBlock_goes h) fun _ => ⟨_, rfl⟩)
  | compress =>
    obtain ⟨_, _, _, e⟩ := compressBlock_next hs
    rw [exec, execCompress]
    exact command_goes (andThen_goes ⟨_, e⟩ fun _ => ⟨_, rfl⟩)
  | run => exact absurd rfl hrun
  | _ => cases hc

/-- A command other than RUN does not make the source fall silent. -/
theorem exec_command_not_silent {i : Instr} (hc : i.isCommand = true) (hrun : i ≠ .run) (e : exec i s = .next t)
    (h : s.src.tail ≠ .silent) : t.src.tail ≠ .silent := by
  obtain ⟨_, _, _, _, _, _, _, hsrc, _⟩ := accessTable i s t e
  cases i with
  | init | hasmore | compress | digest => rw [hsrc (by simp [Instr.kind])]; exact h
  | next =>
    obtain hsame | ⟨a, hread⟩ := (nextReadsAtMostOnce s t e).1
    · rw [hsame]; exact h
    · obtain ⟨a', rest, hread', hrest⟩ := sourceRead_answers h
      cases hread.symm.trans hread'
      exact hrest
  | run => exact absurd rfl hrun
  | _ => cases hc

/-- The command codes 0 to 4 are the commands other than RUN (30_encoding.md R80). -/
theorem decode_answered_command {c : BitVec 3} (h : c.toNat ≤ 4) :
    ∃ i, decode (.cmd c) = .ok i ∧ i.isCommand = true ∧ i ≠ .run := by
  obtain h | h | h | h | h : c.toNat = 0 ∨ c.toNat = 1 ∨ c.toNat = 2 ∨ c.toNat = 3 ∨ c.toNat = 4 := by omega
  · exact ⟨.init, by simp [decode, decodeCmd, h], rfl, nofun⟩
  · exact ⟨.hasmore, by simp [decode, decodeCmd, h], rfl, nofun⟩
  · exact ⟨.next, by simp [decode, decodeCmd, h], rfl, nofun⟩
  · exact ⟨.compress, by simp [decode, decodeCmd, h], rfl, nofun⟩
  · exact ⟨.digest, by simp [decode, decodeCmd, h], rfl, nofun⟩

/-! ## Steps and runs -/

/-- What every step of an answered run keeps: the invariant, a source that has not fallen silent, and answered inputs to
come. -/
structure AnsweredState (s : State) : Prop where
  inv : s.Inv
  source : s.src.tail ≠ .silent
  inputs : ∀ x ∈ s.host, Claims.AnsweredInput x

/-- With nothing placed and the engine idle, a step takes the host's next input. -/
theorem step_idle (hf : s.forced = none) (hs : s.step = 0#7) : step s = stepHost s := by
  simp [stepMachine, hf, hs]

/-- A command that goes is not abandoned. -/
theorem stepHost_command {c : BitVec 3} {rest : List HostInput} (hh : s.host = .command c :: rest)
    (e : perform (.cmd c) (s.setHost rest) = .next t) : stepHost s = .next t := by
  rw [stepHost, hh]
  simp [e, unlessReset]

/-- A step of an answered run goes, and the run goes on as one. -/
theorem step_answeredState (h : AnsweredState s) : ∃ t, step s = .next t ∧ AnsweredState t := by
  obtain ⟨hinv, hsource, hinputs⟩ := h
  obtain ⟨t, e, hsrc, hhost⟩ : ∃ t, step s = .next t ∧ t.src.tail ≠ .silent ∧
      ∀ x ∈ t.host, Claims.AnsweredInput x := by
    rw [step_idle hinv.unforced hinv.idle]
    cases hh : s.host with
    | nil => exact ⟨s, by simp [stepHost, hh], hsource, hinputs⟩
    | cons x rest =>
      rw [hh, List.forall_mem_cons] at hinputs
      obtain ⟨hx, hrest⟩ := hinputs
      cases x with
      | reset => exact ⟨(s.setHost rest).applyReset, by simp [stepHost, hh], hsource, hrest⟩
      | attach y => exact ⟨(s.setHost rest).setSrc y, by simp [stepHost, hh], hx, hrest⟩
      | command c =>
        obtain ⟨i, hd, hc, hrun⟩ := decode_answered_command hx
        obtain ⟨t, e⟩ := exec_command_goes (s := s.setHost rest) hc hrun hinv.idle hsource
        obtain ⟨_, _, _, _, _, _, _, _, _, hhost, _⟩ := accessTable i _ t e
        exact ⟨t, stepHost_command hh ((perform_ok hd _).trans e),
          exec_command_not_silent hc hrun e hsource, by rw [hhost]; exact hrest⟩
  exact ⟨t, e, stepKeepsInvariant s t hinv e, hsrc, hhost⟩

/-- From a state of a class whose steps all go and stay in the class, every run goes. -/
theorem safeRun_of_progress {P : State → Prop} (progress : ∀ s, P s → ∃ t, step s = .next t ∧ P t) (n : Nat) :
    ∀ {s : State}, P s → SafeRun n s := by
  induction n with
  | zero => exact fun {s} _ => ⟨s, rfl⟩
  | succ n ih =>
    intro s hs
    obtain ⟨t, e, ht⟩ := progress s hs
    rw [SafeRun, runSteps, e, andThen_next]
    exact ih ht

/-- Settles O52: each step takes the host's next input, which goes, and no source falls silent. -/
theorem answeredRunsNeverStop : Obligations.AnsweredRunsNeverStop := by
  unfold Obligations.AnsweredRunsNeverStop
  intro n s hinv hsource hinputs
  exact safeRun_of_progress (fun _ => step_answeredState) n ⟨hinv, hsource, hinputs⟩

end Sys2Proof.Machine
end

section
/-! PROOFS. The fields of a control word, the store's words and their entries, and the codes of the instructions: decode and
encode agree (30_encoding.md R80 to R87, R94). -/

namespace Sys2Proof.Machine

/-! ## The fields of a control word (30_encoding.md R83) -/

/-- The value of `ffkkkksssss`. -/
theorem toNat_ctlWord (fn : AuxFn) (k : BitVec 4) (s : BitVec 5) :
    (ctlWord fn k s).toNat = 512 * fn.code.toNat + 32 * k.toNat + s.toNat := by
  simp only [ctlWord, toNat_append_eq_add]
  omega

@[simp] theorem ctlFn_ctlWord (fn : AuxFn) (k : BitVec 4) (s : BitVec 5) : ctlFn (ctlWord fn k s) = fn := by
  have hfield : ((ctlWord fn k s).extractLsb' 9 2).toNat = fn.code.toNat := by
    rw [BitVec.extractLsb'_toNat, toNat_ctlWord, Nat.shiftRight_eq_div_pow]
    omega
  rw [ctlFn, hfield]
  cases fn <;> rfl

@[simp] theorem ctlK_ctlWord (fn : AuxFn) (k : BitVec 4) (s : BitVec 5) : ctlK (ctlWord fn k s) = k := by
  apply BitVec.eq_of_toNat_eq
  rw [ctlK, BitVec.extractLsb'_toNat, toNat_ctlWord, Nat.shiftRight_eq_div_pow]
  omega

@[simp] theorem ctlS_ctlWord (fn : AuxFn) (k : BitVec 4) (s : BitVec 5) : ctlS (ctlWord fn k s) = s := by
  apply BitVec.eq_of_toNat_eq
  rw [ctlS, BitVec.extractLsb'_toNat, toNat_ctlWord, Nat.shiftRight_eq_div_pow]
  omega

/-- All four values of the field `fn` are used. -/
theorem code_ctlFn (w : BitVec 11) : (ctlFn w).code = w.extractLsb' 9 2 := by
  unfold ctlFn
  generalize w.extractLsb' 9 2 = field
  revert field
  decide

/-- A control word is made up of its fields. -/
theorem ctlWord_fields (w : BitVec 11) : ctlWord (ctlFn w) (ctlK w) (ctlS w) = w := by
  apply BitVec.eq_of_toNat_eq
  rw [toNat_ctlWord, code_ctlFn, ctlK, ctlS]
  simp only [BitVec.extractLsb'_toNat, Nat.shiftRight_eq_div_pow]
  omega

/-! ## The step kinds as instructions -/

theorem encode_stepInstr (fn : AuxFn) (k : BitVec 4) (s : BitVec 5) :
    encode (stepInstr fn k s) = .ctl (ctlWord fn k s) := by
  cases fn <;> rfl

theorem kind_stepInstr (fn : AuxFn) (k : BitVec 4) (s : BitVec 5) : (stepInstr fn k s).kind = .step := by
  cases fn <;> rfl

/-- A step kind is well-formed when its word is no entry of the store (log 11). -/
theorem wf_stepInstr (fn : AuxFn) (k : BitVec 4) (s : BitVec 5) :
    (stepInstr fn k s).wf = true ↔ ctlWord fn k s ∉ Rom.controlStore := by
  have h : (stepInstr fn k s).wf = outsideStore fn k s := by cases fn <;> rfl
  simp [h, outsideStore]

/-! ## The store's entries as instructions (30_encoding.md R85, R87) -/

theorem encode_entryInstrs : ∀ i : Fin 64, encode entryInstrs[i] = .ctl Rom.controlStore[i] := by decide

theorem wf_entryInstrs : ∀ i : Fin 64, entryInstrs[i].wf = true := by decide

theorem kind_entryInstrs : ∀ i : Fin 64, entryInstrs[i].kind = .step := by decide

/-- A word the store does not hold is paired with no entry. -/
theorem findEntry_of_notMem {w : BitVec 11} {vs : List (BitVec 11)} (h : w ∉ vs) :
    ∀ is : List Instr, findEntry w vs is = none := by
  induction vs with
  | nil => intro is; rfl
  | cons v vs ih =>
    obtain ⟨hv, hvs⟩ := not_or.mp (List.mem_cons.not.mp h)
    intro is
    cases is with
    | nil => rfl
    | cons i is => rw [findEntry, if_neg (Ne.symm hv), ih hvs]

/-- An instruction of the column STEP is a step kind or an entry of the store. -/
theorem kind_step_cases {i : Instr} (h : i.kind = .step) :
    (∃ fn k s, i = stepInstr fn k s) ∨ ∃ n : Fin 64, i = entryInstrs[n] := by
  cases i with
  | stepF k s => exact .inl ⟨.f, k, s, rfl⟩
  | stepG k s => exact .inl ⟨.g, k, s, rfl⟩
  | stepH k s => exact .inl ⟨.h, k, s, rfl⟩
  | stepI k s => exact .inl ⟨.i, k, s, rfl⟩
  | init | hasmore | next | compress | digest | run | latch | chain => cases h
  | _ => exact .inr (by decide)

/-! ## Decoding a control word -/

theorem decodeCtl_of_notMem {w : BitVec 11} (h : w ∉ Rom.controlStore) :
    decodeCtl w = stepInstr (ctlFn w) (ctlK w) (ctlS w) := by
  rw [decodeCtl, findEntry_of_notMem h]

/-- A control word is an entry of the store and decodes to it, or is none and decodes to its step kind (log 11). -/
theorem decodeCtl_cases (w : BitVec 11) :
    (∃ n : Fin 64, w = Rom.controlStore[n] ∧ decodeCtl w = entryInstrs[n]) ∨
    (w ∉ Rom.controlStore ∧ decodeCtl w = stepInstr (ctlFn w) (ctlK w) (ctlS w)) := by
  by_cases h : w ∈ Rom.controlStore
  · obtain ⟨n, hn, rfl⟩ := List.mem_iff_getElem.mp h
    exact .inl ⟨⟨n, hn⟩, rfl, decodeCtl_controlStore ⟨n, hn⟩⟩
  · exact .inr ⟨h, decodeCtl_of_notMem h⟩

/-- Every control word is the code of the instruction it decodes to. -/
theorem encode_decodeCtl (w : BitVec 11) : encode (decodeCtl w) = .ctl w := by
  obtain ⟨n, rfl, e⟩ | ⟨_, e⟩ := decodeCtl_cases w
  · rw [e, encode_entryInstrs]
  · rw [e, encode_stepInstr, ctlWord_fields]

theorem wf_decodeCtl (w : BitVec 11) : (decodeCtl w).wf = true := by
  obtain ⟨n, _, e⟩ | ⟨h, e⟩ := decodeCtl_cases w
  · rw [e, wf_entryInstrs]
  · rw [e, wf_stepInstr, ctlWord_fields]
    exact h

theorem kind_decodeCtl (w : BitVec 11) : (decodeCtl w).kind = .step := by
  obtain ⟨n, _, e⟩ | ⟨_, e⟩ := decodeCtl_cases w
  · rw [e, kind_entryInstrs]
  · rw [e, kind_stepInstr]

/-! ## Decode and encode agree -/

/-- A step kind outside the store is read back from its word, and an entry of the store from its own. -/
theorem decode_encode_of_kind_step {i : Instr} (hk : i.kind = .step) (hwf : i.wf = true) :
    decode (encode i) = .ok i := by
  obtain ⟨fn, k, s, rfl⟩ | ⟨n, rfl⟩ := kind_step_cases hk
  · rw [encode_stepInstr, decode, decodeCtl_of_notMem ((wf_stepInstr fn k s).mp hwf), ctlFn_ctlWord, ctlK_ctlWord,
      ctlS_ctlWord]
  · rw [encode_entryInstrs, decode, decodeCtl_controlStore]

/-- Settles O1: the commands, LATCH and CHAIN are read back from their codes, every other instruction from its word. -/
theorem decodeOfEncode : Obligations.DecodeOfEncode := by
  unfold Obligations.DecodeOfEncode
  intro i hwf
  cases i with
  | init | hasmore | next | compress | digest | run | latch | chain => rfl
  | _ => exact decode_encode_of_kind_step rfl hwf

/-- Settles O2: a word is the code of what it decodes to, and by O1 of no other well-formed instruction. -/
theorem controlWordHasOneMeaning : Obligations.ControlWordHasOneMeaning := by
  unfold Obligations.ControlWordHasOneMeaning
  intro w
  refine ⟨decodeCtl w, rfl, wf_decodeCtl w, encode_decodeCtl w, fun j hj hw => ?_⟩
  have hdecode : decode (.ctl w) = .ok j := hw ▸ decodeOfEncode j hj
  exact (Except.ok.inj hdecode).symm

/-- Settles O4: each word is the code of the instruction it is said to stand for, which by O1 is read back from it; the
last two are command codes. -/
theorem workedWords : Obligations.WorkedWords :=
  ⟨decodeOfEncode .cw19 rfl, rfl, rfl, rfl, decodeOfEncode .cw1 rfl, decodeOfEncode .cw36 rfl, decodeOfEncode .cw64 rfl,
    decodeOfEncode (.stepF 3#4 7#5) (by decide), decodeOfEncode (.stepH 0#4 1#5) (by decide), rfl, rfl⟩

end Sys2Proof.Machine
end

section
/-! PROOFS. A step runs what it decodes: the host's command, the round controller's code, and a code placed at the engine
(30_encoding.md R80, R94; 41_engine.md R157). -/

namespace Sys2Proof.Machine

variable {s : State}

/-! ## The host's next input -/

/-- A command is abandoned only where reset is next and it waits for the source or does not end. -/
theorem unlessReset_eq_self {o : Host.Outcome State Fault Refusal}
    (h : (∀ r, s.host ≠ .reset :: r) ∨ o ≠ .fault .sourceSilent ∧ o ≠ .fault .sourceEndless) :
    unlessReset o s = o := by
  obtain e | ⟨ho, r, hr, _⟩ | ⟨ho, r, hr, _⟩ := unlessReset_cases o s
  · exact e
  · obtain h | ⟨h, _⟩ := h
    · exact absurd hr (h r)
    · exact absurd ho h
  · obtain h | ⟨_, h⟩ := h
    · exact absurd hr (h r)
    · exact absurd ho h

/-- With nothing placed and the engine idle, a command at the head of the host's inputs is performed with that input
taken, unless it is abandoned. -/
theorem step_hostCommand {c : BitVec 3} {rest : List HostInput} (hf : s.forced = none) (hs : s.step = 0#7)
    (hh : s.host = .command c :: rest)
    (h : (∀ r, rest ≠ .reset :: r) ∨ perform (.cmd c) (s.setHost rest) ≠ .fault .sourceSilent ∧
      perform (.cmd c) (s.setHost rest) ≠ .fault .sourceEndless) :
    step s = perform (.cmd c) (s.setHost rest) := by
  rw [step_idle hf hs, stepHost, hh]
  exact unlessReset_eq_self h

theorem decodeCmd_reserved {c : BitVec 3} (h : 6 ≤ c.toNat) : decodeCmd c = .error (.reservedCommand c) := by
  obtain h | h : c.toNat = 6 ∨ c.toNat = 7 := by omega
  · simp [decodeCmd, h]
  · simp [decodeCmd, h]

/-- Settles O3: the six codes decode by the table, and a reserved one is refused where it is performed, whatever input
comes next. -/
theorem commandCodes : Obligations.CommandCodes := by
  unfold Obligations.CommandCodes
  refine ⟨rfl, rfl, rfl, rfl, rfl, rfl, fun c hc s rest hf hs hh => ?_⟩
  have hrefused : perform (.cmd c) (s.setHost rest) = .refused (.undecodable (.reservedCommand c)) :=
    perform_error (code := .cmd c) (decodeCmd_reserved hc) _
  rw [step_hostCommand hf hs hh (.inr (by rw [hrefused]; exact ⟨nofun, nofun⟩)), hrefused]

/-- The round controller executes what its code decodes to (41_engine.md R157). -/
theorem stepController_of_decode {code : Code} {i : Instr} (hc : controllerCode s.step = some code)
    (hd : decode code = .ok i) : stepController s = exec i s := by
  rw [stepController, hc]
  exact perform_ok hd s

/-- Settles O50: the host's command, the round controller's code, and the two other inputs of the idle engine. -/
theorem stepRunsDecoded : Obligations.StepRunsDecoded := by
  unfold Obligations.StepRunsDecoded
  refine ⟨fun s c rest i hf hs hh hd h => ?_, fun s code i hf hs hr hc hd => ?_, fun s hf hs hh => ?_,
    fun s x rest hf hs hh => ?_⟩
  · have hexec : perform (.cmd c) (s.setHost rest) = exec i { s with host := rest } := perform_ok hd _
    rw [step_hostCommand hf hs hh (by rw [hexec]; exact h), hexec]
  · rw [step_busy hf hr hs, stepController_of_decode hc hd]
  · rw [step_idle hf hs, stepHost, hh]
  · rw [step_idle hf hs, stepHost, hh]
    rfl

/-! ## An instruction placed for the next step (log 15, log 18) -/

/-- Bits that decode to an instruction are the bits of a code that does. -/
theorem decodeTableWord_eq_some {nbits w : Nat} {i : Instr} (h : decodeTableWord nbits w = some i) :
    ∃ code, codeOfBits nbits w = .ok code ∧ decode code = .ok i := by
  unfold decodeTableWord decodeBits at h
  cases hc : codeOfBits nbits w with
  | error r => simp [hc] at h
  | ok code =>
    cases hd : decode code with
    | error r => simp [hc, hd] at h
    | ok j =>
      simp only [hc, hd, Option.some.injEq] at h
      exact ⟨code, rfl, by rw [hd, h]⟩

/-- Bits that are a code place it. -/
theorem withFetchWord_of_codeOfBits {nbits w : Nat} {code : Code} (h : codeOfBits nbits w = .ok code) :
    s.withFetchWord nbits w = s.place code := by
  rw [State.withFetchWord, State.placeBits, h]

/-- A code placed at the engine is performed, and no longer placed. -/
theorem step_forced {code : Code} {i : Instr} (hf : s.forced = some code) (hd : decode code = .ok i) :
    step s = exec i (s.setForced none) := by
  rw [step_eq, stepMachine, hf]
  exact perform_ok hd _

/-- A word the store does not hold has no index there. -/
theorem findIndex_of_notMem {w : BitVec 11} {vs : List (BitVec 11)} (h : w ∉ vs) :
    ∀ n : Nat, findIndex w n vs = none := by
  induction vs with
  | nil => intro n; rfl
  | cons v vs ih =>
    obtain ⟨hv, hvs⟩ := not_or.mp (List.mem_cons.not.mp h)
    intro n
    rw [findIndex, if_neg (Ne.symm hv), ih hvs]

/-- A word of the store is placed at its own index. -/
theorem placedStep_controlStore : ∀ n : Fin 64, placedStep Rom.controlStore[n] = n + 1 := by decide

/-- Every control word is placed at an index of the store: its own, or the first of a round. -/
theorem placedStep_range (w : BitVec 11) : 1 ≤ placedStep w ∧ placedStep w ≤ 64 := by
  obtain ⟨n, rfl, _⟩ | ⟨h, _⟩ := decodeCtl_cases w
  · rw [placedStep_controlStore]
    omega
  · have hlt := (w.extractLsb' 9 2).isLt
    rw [placedStep, storeIndex, findIndex_of_notMem h]
    dsimp only
    omega

/-- The row of the schedule for each index has the store's word at that index (41_engine.md R150). -/
theorem schedule_encode : ∀ n : Fin 64,
    encode Claims.schedule[n].instr = .ctl Rom.controlStore[n] ∧ Claims.schedule[n].index = n + 1 := by decide

/-- A word that decodes to an instruction of the schedule is placed at the index of its row. -/
theorem placedStep_schedule {w : BitVec 11} {r : Claims.ScheduleRow} (hr : r ∈ Claims.schedule)
    (hw : r.instr = decodeCtl w) : placedStep w = r.index := by
  obtain ⟨n, hn, rfl⟩ := List.mem_iff_getElem.mp hr
  obtain ⟨hcode, hindex⟩ := schedule_encode ⟨n, hn⟩
  have hstore : w = Rom.controlStore[n] := Code.ctl.inj <|
    calc Code.ctl w = encode (decodeCtl w) := (encode_decodeCtl w).symm
      _ = encode Claims.schedule[n].instr := by rw [hw]
      _ = .ctl Rom.controlStore[n] := hcode
  rw [hstore]
  exact (placedStep_controlStore ⟨n, hn⟩).trans hindex.symm

/-- The values of `step` that stand for an instruction: 0 for LATCH and 65 for CHAIN (30_encoding.md R87). -/
theorem decodeSeq_eq_ok {st : BitVec 7} {i : Instr} (h : decodeSeq st = .ok i) :
    st = 0#7 ∧ i = .latch ∨ st = 65#7 ∧ i = .chain := by
  unfold decodeSeq at h
  split at h
  · exact .inl ⟨BitVec.eq_of_toNat_eq ‹_›, (Except.ok.inj h).symm⟩
  · exact .inr ⟨BitVec.eq_of_toNat_eq ‹_›, (Except.ok.inj h).symm⟩
  · cases h

/-- The step after placing a command is exec of it, with the engine idle. -/
theorem step_place_cmd {c : BitVec 3} {i : Instr} (hh : s.host = []) (hd : decode (.cmd c) = .ok i) :
    step (s.place (.cmd c)) = exec i { s with forced := none, step := 0#7 } :=
  (step_hostCommand (s := s.place (.cmd c)) (rest := s.host) rfl rfl rfl (.inl (by simp [hh]))).trans (perform_ok hd _)

/-- The step after placing a control word is exec of what it decodes to, at the index it is placed at. -/
theorem step_place_ctl (s : State) (w : BitVec 11) :
    step (s.place (.ctl w)) =
      exec (decodeCtl w) { s with forced := none, step := BitVec.ofNat 7 (placedStep w) } :=
  step_forced (s := s.place (.ctl w)) rfl rfl

/-- The step after placing a sequencing value is exec of LATCH or CHAIN, at that value of `step`. -/
theorem step_place_seq {st : BitVec 7} {i : Instr} (hd : decode (.seq st) = .ok i) :
    step (s.place (.seq st)) = exec i { s with forced := none, step := st } :=
  step_forced (s := s.place (.seq st)) rfl hd

/-- Settles O51: by the format of the code, each placed where its instruction is performed. -/
theorem placedInstructionRuns : Obligations.PlacedInstructionRuns := by
  unfold Obligations.PlacedInstructionRuns
  intro s nbits w i hh hi
  obtain ⟨code, hcode, hd⟩ := decodeTableWord_eq_some hi
  rw [withFetchWord_of_codeOfBits hcode]
  cases code with
  | cmd c =>
    have hc : i.isCommand = true := decodeCmd_isCommand hd
    refine ⟨0#7, step_place_cmd hh hd, fun _ => rfl, fun _ => rfl, ?_, ?_⟩
    · rintro rfl; cases hc
    · intro hk; rw [Instr.isCommand, hk] at hc; cases hc
  | ctl v =>
    cases hd
    have hk := kind_decodeCtl v
    obtain ⟨h1, h64⟩ := placedStep_range v
    have hnat : (BitVec.ofNat 7 (placedStep v)).toNat = placedStep v := by
      rw [BitVec.toNat_ofNat]
      omega
    refine ⟨_, step_place_ctl s v, ?_, ?_, ?_, fun _ => ?_⟩
    · intro hc; rw [Instr.isCommand, hk] at hc; cases hc
    · intro hl; rw [hl] at hk; cases hk
    · intro hl; rw [hl] at hk; cases hk
    · rw [hnat]
      exact ⟨h1, h64, fun r hr hri => placedStep_schedule hr hri⟩
  | seq st =>
    refine ⟨st, step_place_seq hd, ?_⟩
    obtain ⟨rfl, rfl⟩ | ⟨rfl, rfl⟩ := decodeSeq_eq_ok hd
    · exact ⟨nofun, fun _ => rfl, nofun, nofun⟩
    · exact ⟨nofun, nofun, fun _ => rfl, nofun⟩

end Sys2Proof.Machine
end

section
/-! PROOFS. DIGEST's bytes (30_encoding.md R93; 42_driver.md R184). -/

namespace Sys2Proof.Machine

/-- Byte `i` of register `j` stands at place `4j + i` of a quad's 16 bytes. -/
theorem getElem?_bytes (q : Quad) {j i : Nat} (hj : j < 4) (hi : i < 4) :
    q.bytes[4 * j + i]? = some (wordByte (q.get j) i) := by
  interval_cases j <;> interval_cases i <;> rfl

/-- Settles O35: with `fault` clear DIGEST completes with the bytes of the DigestState. -/
theorem digestSerialises : Obligations.DigestSerialises := by
  unfold Obligations.DigestSerialises
  intro s hs
  refine ⟨s.digest.bytes, rfl, ?_, fun j i hj hi => getElem?_bytes s.digest hj hi⟩
  rw [exec, execDigest, command_clear hs, ← hs]
  rfl

end Sys2Proof.Machine
end

section
/-! PROOFS. HASMORE, and what a NEXT that raises no fault returns and writes in each state of the loader (40_loader.md
R110 to R123). -/

namespace Sys2Proof.Machine

variable {s t u : State}

/-! ## HASMORE -/

/-- `more` is 1 outside DONE (10_state.md R31). -/
theorem more_eq (s : State) : s.more = decide (s.lstate ≠ .done) := by
  unfold State.more
  cases s.lstate <;> rfl

/-- Settles O11: with `fault` clear HASMORE answers `more`, with `fault` set it has no effect but its answer. -/
theorem hasmoreAnswers : Obligations.HasmoreAnswers := by
  unfold Obligations.HasmoreAnswers
  refine fun s => ⟨fun hf => ?_, fun hf => ?_⟩
  · rw [exec, execHasmore, command_clear hf, more_eq, ← hf]
    rfl
  · rw [exec, execHasmore, command_faulted hf]
    exact ⟨_, rfl, rfl⟩

/-! ## What NEXT returns -/

/-- With `fault` clear NEXT completes as its body does, and returns the data of the state the body comes to. -/
theorem exec_next_eq_next (hf : s.fault = false) :
    exec .next s = .next t ↔ ∃ u, nextBlock s = .next u ∧ u.complete u.nextData = t := by
  rw [exec, execNext, command_clear hf, andThen_eq_next]
  simp

/-- The completion of a NEXT that raises no fault: the Block is returned (R111). -/
def State.returnBlock (u : State) : State := u.complete (.block u.block)

section
variable (u : State)
@[simp] theorem returnBlock_buf : u.returnBlock.buf = u.buf := rfl
@[simp] theorem returnBlock_lstate : u.returnBlock.lstate = u.lstate := rfl
@[simp] theorem returnBlock_msize : u.returnBlock.msize = u.msize := rfl
@[simp] theorem returnBlock_eodLatched : u.returnBlock.eodLatched = u.eodLatched := rfl
@[simp] theorem returnBlock_fault : u.returnBlock.fault = u.fault := rfl
@[simp] theorem returnBlock_src : u.returnBlock.src = u.src := rfl
end

theorem complete_nextData (hu : u.fault = false) : u.complete u.nextData = u.returnBlock := by
  simp [State.nextData, State.returnBlock, hu]

/-- In PADDING NEXT returns the length block (R120). -/
theorem exec_next_padding (hf : s.fault = false) (hl : s.lstate = .padding) :
    exec .next s = .next s.lengthBlock.returnBlock := by
  obtain ⟨⟨_, _, _, hfault, _⟩, _⟩ := lengthBlock_frame s
  exact (exec_next_eq_next hf).mpr ⟨_, by simp [nextBlock, hl], complete_nextData (hfault.trans hf)⟩

/-- In READING with the latch NEXT returns the block of an empty chunk (R113). -/
theorem exec_next_latched (hf : s.fault = false) (hl : s.lstate = .reading) (he : s.eodLatched = true) :
    exec .next s = .next (s.loadChunk [] true).returnBlock := by
  obtain ⟨⟨_, _, _, hfault, _⟩, _⟩ := loadChunk_frame s [] true
  exact (exec_next_eq_next hf).mpr
    ⟨_, by simp [nextBlock, hl, he, emptyAnswer], complete_nextData (hfault.trans hf)⟩

/-- In READING without the latch NEXT returns the block of the chunk the source answers (R112). -/
theorem exec_next_answered (hf : s.fault = false) (hl : s.lstate = .reading) (he : s.eodLatched = false)
    {a : SourceAnswer} {rest : Source} (hr : sourceRead s.src = some (a, rest)) :
    exec .next s = .next ((s.setSrc rest).loadChunk a.bytes a.eod).returnBlock := by
  obtain ⟨⟨_, _, _, hfault, _⟩, _⟩ := loadChunk_frame (s.setSrc rest) a.bytes a.eod
  exact (exec_next_eq_next hf).mpr ⟨_, by simp [nextBlock, hl, he, hr], complete_nextData (hfault.trans hf)⟩

/-- What an answer does to the loader's registers: it is counted, and its length selects the next state (R112, R123). -/
theorem exec_next_answered_registers (hf : s.fault = false) (hl : s.lstate = .reading) (he : s.eodLatched = false)
    {a : SourceAnswer} {rest : Source} (hr : sourceRead s.src = some (a, rest)) :
    ∃ t, exec .next s = .next t ∧ t.fault = false ∧ t.src = rest ∧
      t.msize = s.msize + BitVec.ofNat 64 (8 * a.bytes.length) ∧
      (a.bytes.length = 64 → t.lstate = .reading ∧ t.eodLatched = a.eod) ∧
      (a.bytes.length ≤ 55 → t.lstate = .done) ∧
      (a.bytes.length ≠ 64 → ¬ a.bytes.length ≤ 55 → t.lstate = .padding) := by
  obtain ⟨⟨_, _, _, hfault, _⟩, hmsize, hsrc⟩ := loadChunk_frame (s.setSrc rest) a.bytes a.eod
  obtain ⟨cfull, cfits, cspills⟩ := loadChunk_control (s.setSrc rest) a.bytes a.eod
  refine ⟨_, exec_next_answered hf hl he hr, by simp [hfault, hf], by simp [hsrc], by simp [hmsize],
    fun h64 => by simp [cfull h64, hl], fun h55 => by simp [cfits h55], fun h64 h55 => by simp [cspills h64 h55]⟩

/-- The whole next state of a NEXT that has written only the buffer and the loader's registers. -/
theorem returnBlock_eq (h : SameOutsideLoader s u) (hf : s.fault = false) {l : LoaderState} {m : Count} {e : Bool}
    {x : Source} (hl : u.lstate = l) (hm : u.msize = m) (he : u.eodLatched = e) (hx : u.src = x) :
    u.returnBlock = { s with
      buf := u.returnBlock.buf
      lstate := l
      msize := m
      eodLatched := e
      src := x
      result := some ⟨false, s.faultCode, .block u.returnBlock.block⟩ } := by
  obtain ⟨digest, work, step, fault, code, host, forced, _, resets, draws⟩ := h
  rw [← digest, ← work, ← step, ← code, ← host, ← forced, ← resets, ← draws, ← fault.trans hf, ← fault]
  subst hl hm he hx
  rfl

/-! ## NEXT in each state of the loader -/

/-- Settles O12: the chunk fills the buffer, so nothing is padded and the loader stays in READING. -/
theorem nextFullChunk : Obligations.NextFullChunk := by
  unfold Obligations.NextFullChunk
  intro s a rest hf hl he hr h64
  obtain ⟨hframe, hmsize, hsrc⟩ := loadChunk_frame (s.setSrc rest) a.bytes a.eod
  obtain ⟨hlstate, hlatch⟩ := (loadChunk_control (s.setSrc rest) a.bytes a.eod).1 h64
  rw [h64] at hmsize
  refine ⟨_, exec_next_answered hf hl he hr, fun j hj => ?_, returnBlock_eq hframe hf hlstate hmsize hlatch hsrc⟩
  exact (loadChunk_full_read _ _ h64 j).trans (if_pos hj)

/-- The length suffix is the bytes of the low and then of the high Word of the counter (20_memory.md R53, R54). -/
theorem getElem?_lengthBytes_words (n : Count) {i : Nat} (hi : i < 4) :
    (lengthBytes n)[i]? = some (wordByte (n.extractLsb' 0 32) i) ∧
    (lengthBytes n)[4 + i]? = some (wordByte (n.extractLsb' 32 32) i) := by
  interval_cases i <;> exact ⟨rfl, rfl⟩

/-- A byte of a Word of the counter is a byte of the counter. -/
theorem wordByte_extractLsb' (n : Count) (p : Nat) {j : Nat} (hj : j < 4) :
    wordByte (n.extractLsb' p 32) j = n.extractLsb' (p + 8 * j) 8 := by
  ext b hb
  have hin : 8 * j + b < 32 := by omega
  simp [wordByte, hin, Nat.add_assoc]

/-- Byte `i` of the length suffix is byte `i` of the counter (20_memory.md R53). -/
theorem getElem?_lengthBytes (n : Count) {i : Nat} (hi : i < 8) :
    (lengthBytes n)[i]? = some (n.extractLsb' (8 * i) 8) := by
  by_cases h4 : i < 4
  · rw [(getElem?_lengthBytes_words n h4).1, wordByte_extractLsb' n 0 h4, Nat.zero_add]
  · obtain ⟨j, rfl⟩ : ∃ j, i = 4 + j := ⟨i - 4, by omega⟩
    have hj : j < 4 := by omega
    rw [(getElem?_lengthBytes_words n hj).2, wordByte_extractLsb' n 32 hj, Nat.mul_add]

/-- Settles O13: the marker and the length, of the counter as this chunk leaves it, fit behind the chunk. -/
theorem nextShortChunkFits : Obligations.NextShortChunkFits := by
  unfold Obligations.NextShortChunkFits
  intro s a rest hf hl he hr h55
  obtain ⟨hframe, hmsize, hsrc⟩ := loadChunk_frame (s.setSrc rest) a.bytes a.eod
  obtain ⟨hlstate, hlatch⟩ := (loadChunk_control (s.setSrc rest) a.bytes a.eod).2.1 h55
  refine ⟨_, exec_next_answered hf hl he hr, fun j hj => ?_,
    returnBlock_eq hframe hf hlstate hmsize (hlatch.trans he.symm) hsrc⟩
  rw [← getElem?_lengthBytes _ (i := j - 56) (by omega), returnBlock_buf, returnBlock_msize,
    loadChunk_fits_read _ _ h55 hj, hmsize]
  rfl

/-- Settles O14: the marker fits behind the chunk and the length does not. -/
theorem nextShortChunkSpills : Obligations.NextShortChunkSpills := by
  unfold Obligations.NextShortChunkSpills
  intro s a rest hf hl he hr h56 h63
  obtain ⟨hframe, hmsize, hsrc⟩ := loadChunk_frame (s.setSrc rest) a.bytes a.eod
  obtain ⟨hlstate, hlatch⟩ :=
    (loadChunk_control (s.setSrc rest) a.bytes a.eod).2.2 (by omega) (by omega)
  refine ⟨_, exec_next_answered hf hl he hr, fun j hj => ?_,
    returnBlock_eq hframe hf hlstate hmsize (hlatch.trans he.symm) hsrc⟩
  exact loadChunk_nofit_read _ _ h63 (by omega) hj

/-- Settles O15: the length block's bytes are zeros and the counter's, and the source is not asked. -/
theorem nextLengthBlock : Obligations.NextLengthBlock := by
  unfold Obligations.NextLengthBlock
  intro s hf hl
  obtain ⟨hframe, hmsize, hlatch, hsrc, hlstate⟩ := lengthBlock_frame s
  refine ⟨_, exec_next_padding hf hl, fun j hj => ?_, returnBlock_eq hframe hf hlstate hmsize hlatch hsrc⟩
  rw [← getElem?_lengthBytes _ (i := j - 56) (by omega), returnBlock_buf, lengthBlock_read s hj]

/-- An empty chunk clears the latch, so what it was before does not matter (R118). -/
theorem loadChunk_nil_setEodLatched (s : State) (b eod : Bool) :
    (s.setEodLatched b).loadChunk [] eod = s.loadChunk [] eod := rfl

/-- Settles O17: the answer put first is the one taken, and the source is left as it was. -/
theorem nextAfterLatchedEnd : Obligations.NextAfterLatchedEnd := by
  unfold Obligations.NextAfterLatchedEnd
  intro s e hf hl he hbytes heod
  have latched := exec_next_latched hf hl he
  obtain ⟨_, _, hsrc⟩ := loadChunk_frame s [] true
  obtain ⟨hdone, _⟩ := (loadChunk_control s [] true).2.1 (Nat.zero_le 55)
  have answered := exec_next_answered (a := e) (rest := s.src)
    (s := { s with eodLatched := false, src := { s.src with pending := e :: s.src.pending } }) hf hl rfl rfl
  rw [hbytes, heod] at answered
  refine ⟨?_, _, latched, by rw [returnBlock_src, hsrc], by rw [returnBlock_lstate, hdone]⟩
  rw [latched, answered, ← loadChunk_nil_setEodLatched s false]
  rfl

/-! ## What every NEXT does -/

/-- Settles O21, row by row of the table: the state and the answer select the body's case, and `more` is read off
`lstate`. -/
theorem loaderTransitions : Obligations.LoaderTransitions := by
  unfold Obligations.LoaderTransitions
  intro s t hf h
  rw [more_eq]
  refine ⟨fun hl => ?_, fun hl => ?_, fun hl he => ?_, fun hl he a rest hr => ?_⟩
  · obtain ⟨u, hu, rfl⟩ := (exec_next_eq_next hf).mp h
    obtain ⟨_, rfl⟩ | ⟨hd, _⟩ := nextBlock_frame hu
    · simp [hl]
    · exact absurd hl hd
  · obtain ⟨⟨_, _, _, hfault, _⟩, _, _, _, hdone⟩ := lengthBlock_frame s
    cases h.symm.trans (exec_next_padding hf hl)
    simp [hdone, hfault, hf]
  · obtain ⟨⟨_, _, _, hfault, _⟩, _⟩ := loadChunk_frame s [] true
    obtain ⟨hdone, _⟩ := (loadChunk_control s [] true).2.1 (Nat.zero_le 55)
    cases h.symm.trans (exec_next_latched hf hl he)
    simp [hdone, hfault, hf]
  · obtain ⟨v, e, hfault, _, _, hfull, hfits, hspills⟩ := exec_next_answered_registers hf hl he hr
    cases h.symm.trans e
    refine ⟨hfault, fun h64 => ?_, fun h55 => ?_, fun h56 h63 => ?_⟩
    · simp [hfull h64]
    · simp [hfits h55]
    · simp [hspills (by omega) (by omega)]

/-- NEXT outside DONE writes every byte of the buffer (R111). -/
theorem nextBlock_full (hd : s.lstate ≠ .done) (h : nextBlock s = .next u) : Memory.full u.buf := by
  obtain ⟨hl, _⟩ | ⟨_, e⟩ | ⟨_, _, e⟩ | ⟨_, _, a, rest, _, e⟩ | ⟨_, _, _, e⟩ := nextBlock_cases s
  · exact absurd hl hd
  all_goals rw [e] at h; cases h
  · exact lengthBlock_full s
  · exact loadChunk_full s true (Nat.zero_le 64)
  · exact loadChunk_full (s.setSrc rest) a.eod a.short

/-- Settles O20: a NEXT without fault was not in DONE, so it has written the buffer. -/
theorem nextWritesWholeBlock : Obligations.NextWritesWholeBlock := by
  unfold Obligations.NextWritesWholeBlock
  intro s t hf h ht
  obtain ⟨u, hu, rfl⟩ := (exec_next_eq_next hf).mp h
  rw [complete_fault] at ht
  obtain ⟨_, rfl⟩ | ⟨hd, ⟨_, _, _, hfault, hcode, _⟩, habove⟩ := nextBlock_frame hu
  · cases ht
  · refine ⟨nextBlock_full (u := u) hd hu, habove, ?_⟩
    rw [complete_nextData ht, ← hcode, ← ht]
    rfl

/-! ## The length at the end of the last block -/

/-- `M[k]` is the Word whose four bytes stand in the buffer at `4k` (20_memory.md R51, R54). -/
theorem bufWord_of_read {w : Word} {k : Nat}
    (h : ∀ i, i < 4 → Memory.read s.buf (4 * k + i) = some (wordByte w i)) : s.bufWord k = w := by
  apply BitVec.eq_of_getLsbD_eq
  intro b hb
  rw [getLsbD_bufWord s k hb, bufByte_of_read (h (b / 8) (by omega)), wordByte, BitVec.getLsbD_extractLsb',
    Nat.div_add_mod, decide_eq_true (Nat.mod_lt b (by decide)), Bool.true_and]

/-- The buffer ends in the counter (R117). -/
def State.EndsInLength (s : State) : Prop :=
  ∀ i, i < 8 → Memory.read s.buf (56 + i) = (lengthBytes s.msize)[i]?

theorem lengthBlock_endsInLength (s : State) : s.lengthBlock.EndsInLength := by
  intro i hi
  rw [lengthBlock_read s (by omega), if_neg (by omega), Nat.add_sub_cancel_left, (lengthBlock_frame s).2.1]

/-- A chunk that brings the loader from READING to DONE is short enough for the length to follow it (R116, R118). -/
theorem loadChunk_endsInLength {bytes : List Byte} {eod : Bool} (hr : s.lstate = .reading)
    (hd : (s.loadChunk bytes eod).lstate = .done) : (s.loadChunk bytes eod).EndsInLength := by
  obtain ⟨cfull, _, cspills⟩ := loadChunk_control s bytes eod
  have h55 : bytes.length ≤ 55 := by
    by_contra h55
    by_cases h64 : bytes.length = 64
    · rw [(cfull h64).1, hr] at hd; cases hd
    · rw [(cspills h64 h55).1] at hd; cases hd
  intro i hi
  rw [loadChunk_fits_read s eod h55 (by omega), if_neg (by omega), if_neg (by omega), if_neg (by omega),
    Nat.add_sub_cancel_left, (loadChunk_frame s bytes eod).2.1]

/-- The block whose NEXT comes to DONE ends in the counter. -/
theorem nextBlock_endsInLength (hd : s.lstate ≠ .done) (h : nextBlock s = .next u) (hu : u.lstate = .done) :
    u.EndsInLength := by
  obtain ⟨hl, _⟩ | ⟨_, e⟩ | ⟨hl, _, e⟩ | ⟨hl, _, a, rest, _, e⟩ | ⟨_, _, _, e⟩ := nextBlock_cases s
  · exact absurd hl hd
  all_goals rw [e] at h; cases h
  · exact lengthBlock_endsInLength s
  · exact loadChunk_endsInLength hl hu
  · exact loadChunk_endsInLength (s := s.setSrc rest) hl hu

/-- Settles O22: the last eight bytes of the buffer are the counter's, so the last two Words are its halves. -/
theorem lastBlockHoldsLength : Obligations.LastBlockHoldsLength := by
  unfold Obligations.LastBlockHoldsLength
  intro s t hf hd h ht
  obtain ⟨u, hu, rfl⟩ := (exec_next_eq_next hf).mp h
  have hend : u.EndsInLength := nextBlock_endsInLength hd hu ht
  refine ⟨bufWord_of_read fun i hi => ?_, bufWord_of_read fun i hi => ?_⟩
  · exact (hend i (by omega)).trans (getElem?_lengthBytes_words u.msize hi).1
  · have hread := hend (4 + i) (by omega)
    rw [← Nat.add_assoc] at hread
    exact hread.trans (getElem?_lengthBytes_words u.msize hi).2

end Sys2Proof.Machine
end

section
/-! PROOFS. How many NEXTs a message takes (40_loader.md R124). -/

namespace Sys2Proof.Machine

variable {s t : State} {m : Nat} {x : Source} {n : Count}

/-- From `s` exactly `m` NEXTs come to DONE, with the source at `x` and the counter at `n`; none of them raises the
fault. -/
def EndsAfter (m : Nat) (s : State) (x : Source) (n : Count) : Prop :=
  (∃ t, Claims.nexts m s = .next t ∧ t.lstate = .done ∧ t.fault = false ∧ t.src = x ∧ t.msize = n) ∧
  ∀ j, j < m → ∃ u, Claims.nexts j s = .next u ∧ u.lstate ≠ .done ∧ u.fault = false

/-- In DONE no NEXT is left. -/
theorem endsAfter_zero (hd : s.lstate = .done) (hf : s.fault = false) (hx : s.src = x) (hn : s.msize = n) :
    EndsAfter 0 s x n :=
  ⟨⟨s, rfl, hd, hf, hx, hn⟩, fun _ hj => absurd hj (Nat.not_lt_zero _)⟩

/-- A NEXT from a state that is not DONE is one more NEXT to the end. -/
theorem EndsAfter.succ (hd : s.lstate ≠ .done) (hf : s.fault = false) (e : exec .next s = .next t)
    (h : EndsAfter m t x n) : EndsAfter (m + 1) s x n := by
  have nexts_succ : ∀ j, Claims.nexts (j + 1) s = Claims.nexts j t := fun j => by
    rw [Claims.nexts, e, andThen_next]
  obtain ⟨hend, hbefore⟩ := h
  refine ⟨by rwa [nexts_succ], fun j hj => ?_⟩
  cases j with
  | zero => exact ⟨s, rfl, hd, hf⟩
  | succ j => rw [nexts_succ]; exact hbefore j (by omega)

/-- In PADDING one NEXT is left (R120). -/
theorem endsAfter_padding (hf : s.fault = false) (hl : s.lstate = .padding) : EndsAfter 1 s s.src s.msize := by
  obtain ⟨⟨_, _, _, hfault, _⟩, hmsize, _, hsrc, hdone⟩ := lengthBlock_frame s
  have hend : EndsAfter 0 s.lengthBlock.returnBlock s.src s.msize :=
    endsAfter_zero (by simp [hdone]) (by simp [hfault, hf]) (by simp [hsrc]) (by simp [hmsize])
  exact hend.succ (by simp [hl]) hf (exec_next_padding hf hl)

/-- In READING with the latch one NEXT is left (R113). -/
theorem endsAfter_latched (hf : s.fault = false) (hl : s.lstate = .reading) (he : s.eodLatched = true) :
    EndsAfter 1 s s.src s.msize := by
  obtain ⟨⟨_, _, _, hfault, _⟩, hmsize, hsrc⟩ := loadChunk_frame s [] true
  obtain ⟨hdone, _⟩ := (loadChunk_control s [] true).2.1 (Nat.zero_le 55)
  have hend : EndsAfter 0 (s.loadChunk [] true).returnBlock s.src s.msize :=
    endsAfter_zero (by simp [hdone]) (by simp [hfault, hf]) (by simp [hsrc]) (by simp [hmsize])
  exact hend.succ (by simp [hl]) hf (exec_next_latched hf hl he)

/-- An answer that ends the message takes the NEXTs its length needs: the marker and the length stand in its own block,
or in one more (R114 to R119). -/
theorem endsAfter_last (hf : s.fault = false) (hl : s.lstate = .reading) (he : s.eodLatched = false)
    {a : SourceAnswer} {rest : Source} (hr : sourceRead s.src = some (a, rest)) (hend : Claims.EndsMessage a) :
    EndsAfter ((8 * a.bytes.length + 65 + 511) / 512) s rest (s.msize + BitVec.ofNat 64 (8 * a.bytes.length)) := by
  obtain ⟨t, e, hfault, rfl, hmsize, hfull, hfits, hspills⟩ := exec_next_answered_registers hf hl he hr
  have hd : s.lstate ≠ .done := by simp [hl]
  have hshort := a.short
  rw [← hmsize]
  by_cases h64 : a.bytes.length = 64
  · obtain ⟨hlstate, hlatch⟩ := hfull h64
    have heod : a.eod = true := hend.resolve_left (by omega)
    rw [show (8 * a.bytes.length + 65 + 511) / 512 = 1 + 1 by omega]
    exact (endsAfter_latched hfault hlstate (hlatch.trans heod)).succ hd hf e
  by_cases h55 : a.bytes.length ≤ 55
  · rw [show (8 * a.bytes.length + 65 + 511) / 512 = 0 + 1 by omega]
    exact (endsAfter_zero (hfits h55) hfault rfl rfl).succ hd hf e
  · rw [show (8 * a.bytes.length + 65 + 511) / 512 = 1 + 1 by omega]
    exact (endsAfter_padding hfault (hspills h64 h55)).succ hd hf e

/-- Settles O23, by induction on the full chunks: each takes one NEXT and counts 512 bits, and the last answer ends the
message. -/
theorem blockCount : Obligations.BlockCount := by
  unfold Obligations.BlockCount
  intro s full last rest hf hl he hsrc hfull hend
  change EndsAfter _ s ⟨rest, s.src.tail⟩ _
  induction full generalizing s with
  | nil =>
    have hr : sourceRead s.src = some (last, ⟨rest, s.src.tail⟩) := by simp [sourceRead, hsrc]
    simpa using endsAfter_last hf hl he hr hend
  | cons a full ih =>
    obtain ⟨⟨h64, heod⟩, hfull⟩ := List.forall_mem_cons.mp hfull
    have hr : sourceRead s.src = some (a, ⟨full ++ last :: rest, s.src.tail⟩) := by simp [sourceRead, hsrc]
    obtain ⟨t, e, hfault, hsrc', hmsize, hread, _, _⟩ := exec_next_answered_registers hf hl he hr
    obtain ⟨hlstate, hlatch⟩ := hread h64
    have h := ih t hfault hlstate (hlatch.trans heod) (by rw [hsrc']) hfull
    rw [hsrc', hmsize, h64, BitVec.add_assoc, ← BitVec.ofNat_add] at h
    have hm : (8 * (64 * (full.length + 1) + last.bytes.length) + 65 + 511) / 512 =
        (8 * (64 * full.length + last.bytes.length) + 65 + 511) / 512 + 1 := by omega
    have hL : 8 * (64 * (full.length + 1) + last.bytes.length) =
        8 * 64 + 8 * (64 * full.length + last.bytes.length) := by omega
    rw [List.length_cons, hm, hL]
    exact h.succ (by simp [hl]) hf e

end Sys2Proof.Machine
end

section
/-! PROOFS. The auxiliary functions, the register roles, and the working registers after a step (41_engine.md R141 to R145,
R149, R151). -/

namespace Sys2Proof.Machine

/-! ## The auxiliary functions -/

/-- Settles O6: the formulas stand in the definitions, and those of G and F differ in the order of their conjunctions. -/
theorem auxiliaryFormulas : Obligations.AuxiliaryFormulas := by
  unfold Obligations.AuxiliaryFormulas
  intro x y z
  have hgf : (x &&& z) ||| (y &&& ~~~z) = (z &&& x) ||| (~~~z &&& y) := by
    rw [BitVec.and_comm x, BitVec.and_comm y]
  exact ⟨rfl, rfl, rfl, rfl, hgf⟩

/-- Settles O7: each formula acts on the bits of one position, where its three bits have eight values. -/
theorem auxiliaryTruthTable : Obligations.AuxiliaryTruthTable := by
  unfold Obligations.AuxiliaryTruthTable
  intro x y z j hj
  obtain ⟨hf, hg, hh, hi, _⟩ := auxiliaryFormulas x y z
  simp only [hf, hg, hh, hi, BitVec.getLsbD_or, BitVec.getLsbD_and, BitVec.getLsbD_xor, BitVec.getLsbD_not, hj,
    decide_true, Bool.true_and]
  generalize x.getLsbD j = a
  generalize y.getLsbD j = b
  generalize z.getLsbD j = c
  revert a b c
  decide

/-! ## The register roles -/

/-- Settles O9: the roles are computed from `(i - 1) mod 4` alone. -/
theorem registerRoles : Obligations.RegisterRoles := by
  unfold Obligations.RegisterRoles roleA roleB roleC roleD roleShift
  refine ⟨?_, ?_, ?_, ?_⟩ <;> intro i _ hr <;> rw [hr]

/-- From one step to the next each register moves on by one role, the one just written to rb. -/
theorem roles_succ {i : Nat} (h : 1 ≤ i) :
    roleA (i + 1) = roleD i ∧ roleB (i + 1) = roleA i ∧ roleC (i + 1) = roleB i ∧ roleD (i + 1) = roleC i := by
  unfold roleA roleB roleC roleD roleShift
  omega

theorem roleA_lt (i : Nat) : roleA i < 4 := Nat.mod_lt _ (by decide)

/-- The three registers a step reads and does not write are others than the one it writes. -/
theorem roles_ne_roleA (i : Nat) :
    (roleB i < 4 ∧ roleB i ≠ roleA i) ∧ (roleC i < 4 ∧ roleC i ≠ roleA i) ∧ (roleD i < 4 ∧ roleD i ≠ roleA i) := by
  unfold roleA roleB roleC roleD roleShift
  omega

/-! ## The working registers after a step -/

/-- A register is read back after a write to it, and the others are as before. -/
theorem Quad.get_set (q : Quad) (v : Word) {j m : Nat} (hj : j < 4) (hm : m < 4) :
    (q.set j v).get m = if m = j then v else q.get m := by
  interval_cases j <;> interval_cases m <;> rfl

theorem stepValue_eq (fn : AuxFn) (ra rb rc rd m t : Word) (sh : BitVec 5) :
    stepValue fn ra rb rc rd m t sh = rb + rotl32 (ra + aux fn rb rc rd + m + t) sh := rfl

section
variable (q : Quad) (fn : AuxFn) (i : Nat) (m t : Word) (sh : BitVec 5)

/-- A step writes ra with the value of R151. -/
theorem Quad.stepped_get_roleA : (q.stepped fn i m t sh).get (roleA i) = q.get (roleB i) +
    rotl32 (q.get (roleA i) + aux fn (q.get (roleB i)) (q.get (roleC i)) (q.get (roleD i)) + m + t) sh := by
  rw [Quad.stepped, Quad.get_set q _ (roleA_lt i) (roleA_lt i), if_pos rfl, stepValue_eq]

/-- A step keeps the registers bound to rb, rc and rd. -/
theorem Quad.stepped_get_others :
    (q.stepped fn i m t sh).get (roleB i) = q.get (roleB i) ∧
    (q.stepped fn i m t sh).get (roleC i) = q.get (roleC i) ∧
    (q.stepped fn i m t sh).get (roleD i) = q.get (roleD i) := by
  have keeps : ∀ j, j < 4 ∧ j ≠ roleA i → (q.stepped fn i m t sh).get j = q.get j := fun j hj => by
    rw [Quad.stepped, Quad.get_set q _ (roleA_lt i) hj.1, if_neg hj.2]
  obtain ⟨hb, hc, hd⟩ := roles_ne_roleA i
  exact ⟨keeps _ hb, keeps _ hc, keeps _ hd⟩

end

end Sys2Proof.Machine
end

section
/-! PROOFS. The control store against the schedule, and the micro-operations: LATCH, the steps, CHAIN (41_engine.md R147 to
R158). -/

namespace Sys2Proof.Machine

open Claims

variable {s : State}

/-! ## The control store against the schedule -/

/-- The fields of the store's words by the formulas of R147 and R148. -/
theorem controlStore_fields : ∀ n : Fin 64,
    ctlFn Rom.controlStore[n] = fnOf (n + 1) ∧ (ctlK Rom.controlStore[n]).toNat = messageIndex (n + 1) ∧
    (ctlS Rom.controlStore[n]).toNat = amountOf (n + 1) ∧
    (Rom.controlStore[n].extractLsb' 9 2).toNat = roundOf (n + 1) := by decide

/-- Settles O5: the fields are read off the 64 words, and the index formulas tried out in each round. -/
theorem controlStoreIsSchedule : Obligations.ControlStoreIsSchedule := by
  unfold Obligations.ControlStoreIsSchedule
  refine ⟨fun i h1 h64 => ?_, fun r k hr hk => ?_⟩
  · obtain ⟨w, hw⟩ := Option.isSome_iff_exists.mp ((controlWord?_isSome i).mpr ⟨h1, h64⟩)
    obtain ⟨n, rfl, rfl⟩ := controlWord?_eq_some hw
    exact ⟨_, hw, controlStore_fields n⟩
  · have permutes : ∀ r < 4, ∀ k < 16, ∃ j, j < 16 ∧ messageIndex (16 * r + j + 1) = k := by decide
    exact permutes r hr k hk

/-- A row of the schedule has the roles of R149, the constant of R146, and a Word index below 16. -/
theorem schedule_operands : ∀ r ∈ schedule,
    (r.ra = roleA r.index ∧ r.rb = roleB r.index ∧ r.rc = roleC r.index ∧ r.rd = roleD r.index) ∧
    Rom.sine? r.index = some r.t ∧ r.k < 16 := by decide

theorem controlWord?_schedule : ∀ r ∈ schedule,
    Rom.controlWord? r.index = some (ctlWord r.fn (BitVec.ofNat 4 r.k) (BitVec.ofNat 5 r.s)) := by decide

/-- A row's instruction is the one its word decodes to. -/
theorem decodeCtl_schedule : ∀ r ∈ schedule,
    decodeCtl (ctlWord r.fn (BitVec.ofNat 4 r.k) (BitVec.ofNat 5 r.s)) = r.instr := by decide

/-- A row's instruction is performed at the row's index alone, as the step with the row's function, k and s. -/
theorem exec_schedule {r : ScheduleRow} (hr : r ∈ schedule) (s : State) :
    exec r.instr s = entryStep r.index r.fn (BitVec.ofNat 4 r.k) (BitVec.ofNat 5 r.s) s := by
  rw [← decodeCtl_schedule r hr, exec_decodeCtl_entry (controlWord?_schedule r hr), ctlFn_ctlWord, ctlK_ctlWord,
    ctlS_ctlWord]

/-! ## LATCH and CHAIN -/

/-- Settles O24: LATCH's precondition holds. -/
theorem latchCopiesState : Obligations.LatchCopiesState := by
  unfold Obligations.LatchCopiesState
  exact fun s hs => execLatch_eq_next.mpr ⟨hs, rfl⟩

/-- Settles O27: CHAIN's precondition holds. -/
theorem chainAddsEntryState : Obligations.ChainAddsEntryState := by
  unfold Obligations.ChainAddsEntryState
  exact fun s hs => execChain_eq_next.mpr ⟨hs, rfl⟩

/-! ## The steps -/

theorem exec_stepInstr (fn : AuxFn) (k : BitVec 4) (sh : BitVec 5) (s : State) :
    exec (stepInstr fn k sh) s = engineStep fn k sh s := by
  cases fn <;> rfl

/-- A list with one entry for each function holds nothing else. -/
theorem exists_fn_of_mem {α : Type} (f : AuxFn → α) {x : α} (h : x ∈ [f .f, f .g, f .h, f .i]) : ∃ fn, x = f fn := by
  simp only [List.mem_cons, List.not_mem_nil, or_false] at h
  obtain h | h | h | h := h <;> exact ⟨_, h⟩

/-- Where `step` has a constant, a step completes. -/
theorem engineStep_of_sine {T : Word} (h : Rom.sine? s.step.toNat = some T) (fn : AuxFn) (k : BitVec 4)
    (sh : BitVec 5) : engineStep fn k sh s = .next (s.stepped fn k sh T) := by
  simp [engineStep, h, State.stepped]

/-- A step changes the working registers and counts, and nothing else. -/
theorem State.stepped_eq (s : State) (fn : AuxFn) (k : BitVec 4) (sh : BitVec 5) (T : Word) :
    s.stepped fn k sh T = { s with
      work := s.work.stepped fn s.step.toNat (s.bufWord k.toNat) T sh
      step := BitVec.ofNat 7 (s.step.toNat + 1) } := by
  have hstep : s.step + 1#7 = BitVec.ofNat 7 (s.step.toNat + 1) := by
    rw [BitVec.ofNat_add, BitVec.ofNat_toNat, BitVec.setWidth_eq]
  rw [← hstep]
  rfl

/-- Settles O25: each kind is the step of its function, which has a constant at 1 to 64. -/
theorem stepKindsWriteOneRegister : Obligations.StepKindsWriteOneRegister := by
  unfold Obligations.StepKindsWriteOneRegister
  intro s k sh h1 h64 p hp i
  obtain ⟨fn, rfl⟩ := exists_fn_of_mem (fun fn => (stepInstr fn k sh, fn)) hp
  obtain ⟨T, hT⟩ := Option.isSome_iff_exists.mp ((sine?_isSome i).mpr ⟨h1, h64⟩)
  obtain ⟨hb, hc, hd⟩ := s.work.stepped_get_others fn i (s.bufWord k.toNat) T sh
  exact ⟨s.stepped fn k sh T, T, (exec_stepInstr fn k sh s).trans (engineStep_of_sine hT fn k sh), hT,
    s.work.stepped_get_roleA fn i _ T sh, hb, hc, hd, s.stepped_eq fn k sh T⟩

/-- Settles O26: a row's instruction is the step of its word's fields, and its roles and constant are those of its index. -/
theorem storeEntriesFollowSchedule : Obligations.StoreEntriesFollowSchedule := by
  unfold Obligations.StoreEntriesFollowSchedule
  refine ⟨rfl, fun r hr s hs => ⟨controlWord?_schedule r hr, ?_⟩⟩
  obtain ⟨⟨ha, hb, hc, hd⟩, hT, hk⟩ := schedule_operands r hr
  have hword : (BitVec.ofNat 4 r.k).toNat = r.k := Nat.mod_eq_of_lt hk
  rw [← hs] at ha hb hc hd hT
  refine ⟨s.stepped r.fn (BitVec.ofNat 4 r.k) (BitVec.ofNat 5 r.s) r.t, ?_, ?_, ?_⟩
  · rw [exec_schedule hr, entryStep, if_pos hs, engineStep_of_sine hT]
  · rw [State.stepped_eq, hword, Quad.stepped, stepValue_eq, ha, hb, hc, hd]
  · rw [← hs]
    exact s.stepped_eq _ _ _ _

/-! ## Refusals -/

/-- Above 65 the round controller has nothing to perform. -/
theorem stepController_above (h : 66 ≤ s.step.toNat) : stepController s = .refused (.noSuchStep s.step) := by
  have hnone : controllerCode s.step = none := by
    rw [← Option.not_isSome_iff_eq_none, controllerCode_isSome]
    omega
  rw [stepController, hnone]

/-- Settles O28, each operation at a `step` that its precondition excludes. -/
theorem microOperationsNeedTheirStep : Obligations.MicroOperationsNeedTheirStep := by
  unfold Obligations.MicroOperationsNeedTheirStep
  refine ⟨fun s hs => ?_, fun s hs hf => ?_, fun s hs => ?_, fun s k sh hs i hi => ?_, fun r hr s hs => ?_,
    fun s hf hr hs => ?_⟩
  · rw [exec, execLatch, if_neg hs]
  · rw [exec, execCompress, command_clear hf, compressBlock_busy hs, andThen_refused]
  · rw [exec, execChain, if_neg hs]
  · obtain ⟨fn, rfl⟩ := exists_fn_of_mem (fun fn => stepInstr fn k sh) hi
    rw [exec_stepInstr]
    obtain ⟨_, _, _, _, _⟩ | ⟨_, e⟩ := engineStep_cases fn k sh s
    · omega
    · exact e
  · rw [exec_schedule hr, entryStep, if_neg hs]
  · have hbusy : s.step ≠ 0#7 := by rintro h; simp [h] at hs
    rw [step_busy hf hr hbusy, stepController_above hs]

end Sys2Proof.Machine
end

section
/-! PROOFS. The shifting form of R160: one step of the store, and COMPRESS as 64 of them (41_engine.md R140, R160, R161). -/

namespace Sys2Proof.Machine

open Claims

variable {s t : State}

/-! ## One step -/

/-- In role order a step is the shift of R160. -/
theorem inRoleOrder_stepped (q : Quad) (fn : AuxFn) {i : Nat} (hi : 1 ≤ i) (m T : Word) (sh : BitVec 5) :
    inRoleOrder (i + 1) (q.stepped fn i m T sh) =
      let x := inRoleOrder i q
      ⟨x.d, x.b + rotl32 (x.a + aux fn x.b x.c x.d + m + T) sh, x.b, x.c⟩ := by
  obtain ⟨ha, hb, hc, hd⟩ := roles_succ hi
  obtain ⟨kb, kc, kd⟩ := q.stepped_get_others fn i m T sh
  simp only [inRoleOrder, ha, hb, hc, hd, kb, kc, kd, Quad.stepped_get_roleA]

/-- A step of the store that completes is one step of the shifting form: its word holds the function, the Word index and
the amount that R147 and R148 give for its index. -/
theorem storeStep_shift (h : storeStep s = .next t) :
    inRoleOrder (s.step.toNat + 1) t.work = shift s.bufWord s.step.toNat (inRoleOrder s.step.toNat s.work) := by
  obtain ⟨w, T, hw, hT, h1, _, e⟩ | ⟨_, e⟩ := storeStep_cases s
  · rw [e] at h
    cases h
    obtain ⟨n, hn, rfl⟩ := controlWord?_eq_some hw
    obtain ⟨hfn, hk, hs, _⟩ := controlStore_fields n
    rw [← hn] at hfn hk hs
    rw [State.stepped_eq, inRoleOrder_stepped _ _ h1, hfn, hk, shift, hT, ← hs, BitVec.ofNat_toNat, BitVec.setWidth_eq]
    rfl
  · rw [e] at h
    cases h

/-- Settles O29: at an index with a word the step completes. -/
theorem shiftingFormIsStep : Obligations.ShiftingFormIsStep := by
  unfold Obligations.ShiftingFormIsStep
  intro s w hw
  have hstep := (controlWord?_isSome s.step.toNat).mp (by rw [hw]; rfl)
  obtain ⟨_, _, _, _, _, _, e⟩ | ⟨_, _⟩ := storeStep_cases s
  · exact ⟨_, e, storeStep_shift e⟩
  · omega

/-! ## The 64 steps -/

/-- `n` steps of the store from `step = 1` are the first `n` steps of the shifting form. -/
theorem storeSteps_shifted (hs : s.step = 1#7) (n : Nat) : ∀ {t : State}, n ≤ 64 → storeSteps n s = .next t →
    inRoleOrder (n + 1) t.work = shifted s.bufWord n s.work := by
  have hs1 : s.step.toNat = 1 := by rw [hs]; rfl
  induction n with
  | zero =>
    intro t _ h
    cases h
    rfl
  | succ n ih =>
    intro t hn h
    rw [storeSteps_succ] at h
    obtain ⟨u, hu, ht⟩ := andThen_eq_next.mp h
    obtain ⟨v, hv, ⟨hbuf, _, _, _, _, _, _, _, _, _, hresets, _⟩, _, hstep⟩ :=
      storeSteps_next n (s := s) (by omega) (by omega)
    obtain rfl : u = v := Host.Outcome.next.inj (hu.symm.trans hv)
    have hM : u.bufWord = s.bufWord := funext (bufWord_congr hbuf hresets)
    have hindex : u.step.toNat = n + 1 := by omega
    have hshift := storeStep_shift ht
    rw [hindex, hM, ih (by omega) hu] at hshift
    exact hshift

/-- COMPRESS's body with the engine idle, in the shifting form: after the 64 steps role order is a, b, c, d again. -/
theorem compressBlock_shifted (hs : s.step = 0#7) :
    compressBlock s = .next
      ((s.setDigest (s.digest.add (shifted s.bufWord 64 s.digest))).setWork (shifted s.bufWord 64 s.digest)) := by
  obtain ⟨v, hsteps, _, hbody⟩ := compressBlock_next hs
  have hshifted := storeSteps_shifted (s := (s.setWork s.digest).setStep 1#7) rfl 64 le_rfl hsteps
  have hM : ((s.setWork s.digest).setStep 1#7).bufWord = s.bufWord := rfl
  have horder : inRoleOrder (64 + 1) v.work = v.work := rfl
  rw [hM, horder, setStep_work, setWork_work] at hshifted
  rw [hbody, hshifted]

/-- The end state of COMPRESS, for any working registers. -/
theorem complete_setDigest_setWork (hf : s.fault = false) (w : Quad) :
    ((s.setDigest (s.digest.add w)).setWork w).complete .nothing = { s with
      digest := ⟨s.digest.a + w.a, s.digest.b + w.b, s.digest.c + w.c, s.digest.d + w.d⟩
      work := w
      result := some ⟨false, s.faultCode, .nothing⟩ } := by
  rw [← hf]
  rfl

/-- Settles O30: COMPRESS is its body and then its answer. -/
theorem compressIsShiftingForm : Obligations.CompressIsShiftingForm := by
  unfold Obligations.CompressIsShiftingForm
  intro s hf hs
  rw [exec, execCompress, command_clear hf, compressBlock_shifted hs, andThen_next, complete_setDigest_setWork hf]

/-! ## COMPRESS as a function of the DigestState and the Block -/

theorem messageIndex_lt (i : Nat) : messageIndex i < 16 := by
  unfold messageIndex
  split <;> exact Nat.mod_lt _ (by decide)

/-- The shifting form reads the first 16 Words alone. -/
theorem shifted_congr {M N : Nat → Word} (h : ∀ k, k < 16 → M k = N k) (x : Quad) (n : Nat) :
    shifted M n x = shifted N n x := by
  induction n with
  | zero => rfl
  | succ n ih => simp only [shifted, ih, shift, h _ (messageIndex_lt (n + 1))]

/-- A COMPRESS that completes with `fault` clear started with the engine idle. -/
theorem step_of_exec_compress (hf : s.fault = false) (h : exec .compress s = .next t) : s.step = 0#7 := by
  by_contra hs
  rw [exec, execCompress, command_clear hf, compressBlock_busy hs] at h
  cases h

/-- Settles O33: by O30 both end states are written in the shifting form of the same DigestState and Words. -/
theorem compressDeterminedByBlock : Obligations.CompressDeterminedByBlock := by
  unfold Obligations.CompressDeterminedByBlock
  intro s t s' t' hfs hft hdigest hwords hs ht
  have es := compressIsShiftingForm s hfs (step_of_exec_compress hfs hs)
  have et := compressIsShiftingForm t hft (step_of_exec_compress hft ht)
  rw [hs] at es
  rw [ht] at et
  cases es
  cases et
  simp only [hdigest, shifted_congr hwords, and_self]

/-! ## The empty message's block -/

/-- The Words of the empty message's block (95_test_vectors.md V-C1). -/
def emptyMessageWord (k : Nat) : Word := if k = 0 then 0x00000080#32 else 0#32

/-- The working registers after the 64 steps on the empty message's block. -/
theorem shifted_emptyMessageWord :
    shifted emptyMessageWord 64 initialDigest = ⟨0x7246fad3#32, 0x14e45506#32, 0xff4ea3eb#32, 0x6e10a476#32⟩ := by
  decide +kernel

/-- Settles O32: by O30 the DigestState is the sum of the initial constants and the shifting form's registers. -/
theorem compressKnownAnswer : Obligations.CompressKnownAnswer := by
  unfold Obligations.CompressKnownAnswer
  intro s hf hs hdigest h0 hrest
  have hwords : ∀ k, k < 16 → s.bufWord k = emptyMessageWord k := by
    intro k hk
    by_cases hk0 : k = 0
    · rw [hk0, h0]
      rfl
    · rw [hrest k (by omega) (by omega), emptyMessageWord, if_neg hk0]
  have hinit : s.digest = initialDigest := hdigest
  have hwork := (shifted_congr hwords initialDigest 64).trans shifted_emptyMessageWord
  refine ⟨_, compressIsShiftingForm s hf hs, ?_⟩
  dsimp only
  rw [hinit, hwork]
  rfl

end Sys2Proof.Machine
end

section
/-! PROOFS. One pass of RUN: NEXT's body and COMPRESS's body, and the induction over the passes (42_driver.md R182,
R183). -/

namespace Sys2Proof.Machine

variable {s t u : State}

/-! ## Completing with `fault` clear -/

/-- With `fault` clear a command's completion writes the answer and nothing else (30_encoding.md R81). -/
theorem complete_eq (hf : s.fault = false) (x : ResultData) :
    s.complete x = { s with result := some ⟨false, s.faultCode, x⟩ } := by
  rw [← hf]
  rfl

/-- With `fault` clear DIGEST answers the bytes of the DigestState (R184). -/
theorem exec_digest_eq (hf : s.fault = false) : exec .digest s =
    .next { s with result := some ⟨false, s.faultCode, .digest s.digest.bytes⟩ } := by
  rw [exec, execDigest, command_clear hf, complete_eq hf]

/-- With `fault` clear RUN is its loop and then its answer (R182). -/
theorem exec_run_eq (hf : s.fault = false) :
    exec .run s = andThen (runLoop s.runFuel s) fun u => .next (u.complete .nothing) := by
  rw [exec, execRun, command_clear hf]

/-- In DONE RUN does nothing (R182). -/
theorem exec_run_done (hf : s.fault = false) (hd : s.lstate = .done) :
    exec .run s = .next { s with result := some ⟨false, s.faultCode, .nothing⟩ } := by
  rw [exec_run_eq hf, runLoop_of_done hd, andThen_next, complete_eq hf]

/-- A RUN that completes ends in DONE with no fault and the engine idle, and returns no data (R182). -/
theorem exec_run_end (hf : s.fault = false) (hs : s.step = 0#7) (e : exec .run s = .next t) :
    t.lstate = .done ∧ t.fault = false ∧ t.step = 0#7 ∧ t.faultCode = s.faultCode ∧
      t.result = some ⟨false, s.faultCode, .nothing⟩ := by
  rw [exec_run_eq hf] at e
  obtain ⟨u, hu, ht⟩ := andThen_eq_next.mp e
  cases ht
  obtain ⟨hdone, hfault, hstep⟩ := runLoop_done s.runFuel hf hs hu
  obtain ⟨_, _, hcode, _⟩ := runLoop_frame hu
  exact ⟨hdone, hfault, hstep, hcode, by rw [complete_result, hfault, hcode]⟩

/-! ## One pass -/

/-- What COMPRESS's body writes where its 64 steps come to `w` (41_engine.md R140, R158). Its laws are proved for any `w`:
with the steps themselves in the place of `w` the kernel would run them. -/
def State.chainedWith (t : State) (w : Quad) : State := (t.setDigest (t.digest.add w)).setWork w

section
variable (t : State) (w : Quad)
theorem chainedWith_digest : (t.chainedWith w).digest =
    ⟨t.digest.a + w.a, t.digest.b + w.b, t.digest.c + w.c, t.digest.d + w.d⟩ := rfl
theorem chainedWith_lstate : (t.chainedWith w).lstate = t.lstate := rfl
theorem chainedWith_msize : (t.chainedWith w).msize = t.msize := rfl
theorem chainedWith_eodLatched : (t.chainedWith w).eodLatched = t.eodLatched := rfl
theorem chainedWith_step : (t.chainedWith w).step = t.step := rfl
theorem chainedWith_fault : (t.chainedWith w).fault = t.fault := rfl
theorem chainedWith_src : (t.chainedWith w).src = t.src := rfl
theorem chainedWith_setResult (r : Option Result) :
    (t.setResult r).chainedWith w = (t.chainedWith w).setResult r := rfl
end

/-- What COMPRESS's body with the engine idle comes to (41_engine.md R140, R160). -/
def State.compressed (t : State) : State := t.chainedWith (Claims.shifted t.bufWord 64 t.digest)

section
variable (t : State)
@[simp] theorem compressed_digest : t.compressed.digest = Claims.compressed t.digest t.bufWord :=
  chainedWith_digest t _
@[simp] theorem compressed_lstate : t.compressed.lstate = t.lstate := chainedWith_lstate t _
@[simp] theorem compressed_msize : t.compressed.msize = t.msize := chainedWith_msize t _
@[simp] theorem compressed_eodLatched : t.compressed.eodLatched = t.eodLatched := chainedWith_eodLatched t _
@[simp] theorem compressed_step : t.compressed.step = t.step := chainedWith_step t _
@[simp] theorem compressed_fault : t.compressed.fault = t.fault := chainedWith_fault t _
@[simp] theorem compressed_src : t.compressed.src = t.src := chainedWith_src t _
end

theorem compressBlock_eq (hs : t.step = 0#7) : compressBlock t = .next t.compressed := compressBlock_shifted hs

/-- NEXT's body outside DONE leaves the fault and `step` (40_loader.md R111; 10_state.md R24). -/
theorem nextBlock_idle (hd : s.lstate ≠ .done) (hf : s.fault = false) (hs : s.step = 0#7) (h : nextBlock s = .next t) :
    t.fault = false ∧ t.step = 0#7 := by
  obtain ⟨hd', _⟩ | ⟨_, ⟨_, _, hstep, hfault, _⟩, _⟩ := nextBlock_frame h
  · exact absurd hd' hd
  · exact ⟨hfault.trans hf, hstep.trans hs⟩

/-- A pass with the engine idle is NEXT's body and then COMPRESS's, which cannot stop (R182). -/
theorem absorb_eq (hd : s.lstate ≠ .done) (hf : s.fault = false) (hs : s.step = 0#7) :
    absorb s = andThen (nextBlock s) fun t => .next t.compressed := by
  unfold absorb
  cases h : nextBlock s with
  | next t => exact compressBlock_eq (nextBlock_idle hd hf hs h).2
  | fault r => rfl
  | refused r => rfl

/-- A pass leaves the fault and `step`. -/
theorem absorb_idle (hd : s.lstate ≠ .done) (hf : s.fault = false) (hs : s.step = 0#7) (h : absorb s = .next u) :
    u.fault = false ∧ u.step = 0#7 := by
  obtain ⟨hstep, hfault, _⟩ := absorb_frame hd h
  exact ⟨hfault.trans hf, hstep.trans hs⟩

/-- RUN's loop with its fuel is one pass and the loop from there with the fuel of the state reached (log 17). -/
theorem runLoop_pass (hd : s.lstate ≠ .done) (hf : s.fault = false) (hs : s.step = 0#7) :
    runLoop s.runFuel s = andThen (absorb s) fun u => runLoop u.runFuel u := by
  have hlt := passesLeft_lt_fuel s
  obtain ⟨n, hn⟩ : ∃ n, s.runFuel = n + 1 := ⟨s.runFuel - 1, by omega⟩
  obtain ⟨t, u, _, _, e, hless, hleft, hfu, hsu⟩ | ⟨_, _, _, e⟩ | ⟨hs', u, e, hu, hfu, hsu⟩ := absorb_cases hd hf hs
  · rw [hn, runLoop, if_neg hd, e, andThen_next, andThen_next]
    exact runLoop_fuel n hfu hsu (by omega) (passesLeft_lt_fuel u).le
  · rw [hn, runLoop, if_neg hd, e, andThen_fault, andThen_fault]
  · rw [runLoop_endless _ hf hs hs', e, andThen_next, runLoop_endless _ hfu hsu hu]

/-- Outside DONE RUN is one pass and then RUN. -/
theorem exec_run_pass (hd : s.lstate ≠ .done) (hf : s.fault = false) (hs : s.step = 0#7) :
    exec .run s = andThen (absorb s) (exec .run) := by
  rw [exec_run_eq hf, runLoop_pass hd hf hs, andThen_assoc]
  cases h : absorb s with
  | next u => exact (exec_run_eq (absorb_idle hd hf hs h).1).symm
  | fault r => rfl
  | refused r => rfl

/-- Outside DONE, where NEXT's body completes, RUN goes on from the block compressed. -/
theorem exec_run_of_nextBlock (hd : s.lstate ≠ .done) (hf : s.fault = false) (hs : s.step = 0#7)
    (h : nextBlock s = .next t) : exec .run s = exec .run t.compressed := by
  rw [exec_run_pass hd hf hs, absorb_eq hd hf hs, h, andThen_next, andThen_next]

/-- A RUN that comes to a source that never answers stops there (R183; 20_memory.md R60). -/
theorem exec_run_silent (hf : s.fault = false) (hs : s.step = 0#7) (hl : s.lstate = .reading)
    (he : s.eodLatched = false) (hr : sourceRead s.src = none) : exec .run s = .fault .sourceSilent := by
  have hd : s.lstate ≠ .done := by simp [hl]
  have hnext : nextBlock s = .fault .sourceSilent := by simp [nextBlock, hl, he, hr]
  rw [exec_run_pass hd hf hs, absorb_eq hd hf hs, hnext, andThen_fault, andThen_fault]

/-- A RUN that comes to full chunks without end stops as endless (R183). -/
theorem exec_run_endless (hf : s.fault = false) (hs : s.step = 0#7) (h : s.Endless) :
    exec .run s = .fault .sourceEndless := by
  rw [exec_run_eq hf, runLoop_endless _ hf hs h, andThen_fault]

/-- Induction over the passes of a RUN: it stands in DONE, waits for a silent source, has come to full chunks without
end, or makes a pass, which leaves fewer of them (40_loader.md R123). -/
theorem run_induction {P : State → Prop}
    (done : ∀ s, s.fault = false → s.lstate = .done → P s)
    (silent : ∀ s, s.fault = false → s.step = 0#7 → s.lstate = .reading → s.eodLatched = false →
      sourceRead s.src = none → P s)
    (endless : ∀ s, s.fault = false → s.step = 0#7 → s.Endless → P s)
    (pass : ∀ s t, s.fault = false → s.step = 0#7 → s.lstate ≠ .done → nextBlock s = .next t → P t.compressed → P s)
    {s : State} (hf : s.fault = false) (hs : s.step = 0#7) : P s := by
  induction hn : s.passesLeft using Nat.strong_induction_on generalizing s with
  | _ n ih =>
  by_cases hd : s.lstate = .done
  · exact done s hf hd
  obtain ⟨t, u, ht, hu, _, hless, hleft, hfu, hsu⟩ | ⟨hl, he, hr, _⟩ | ⟨hs', _⟩ := absorb_cases hd hf hs
  · rw [compressBlock_eq (nextBlock_idle hd hf hs ht).2] at hu
    cases hu
    exact pass s t hf hs hd ht (ih _ (by omega) hfu hsu rfl)
  · exact silent s hf hs hl he hr
  · exact endless s hf hs hs'

end Sys2Proof.Machine
end

section
/-! PROOFS. INIT, and RUN as the loop of the host's own commands (42_driver.md R180 to R182). -/

namespace Sys2Proof.Machine

variable {s t : State}

/-! ## INIT -/

/-- The initial constants, low-order byte first (42_driver.md R180). -/
theorem initialDigest_bytes : initialDigest.bytes =
    [0x01#8, 0x23#8, 0x45#8, 0x67#8, 0x89#8, 0xab#8, 0xcd#8, 0xef#8,
     0xfe#8, 0xdc#8, 0xba#8, 0x98#8, 0x76#8, 0x54#8, 0x32#8, 0x10#8] := by decide

/-- Settles O34: INIT's writes are its four registers, and DIGEST's bytes are the constants', low-order byte first. -/
theorem initStartsMessage : Obligations.InitStartsMessage := by
  unfold Obligations.InitStartsMessage
  refine ⟨fun s hf => ?_, fun s hf => ⟨?_, rfl, ?_⟩⟩
  · rw [exec, execInit, command_faulted hf]
    exact ⟨_, rfl, rfl⟩
  · have hinit : s.initialise.fault = false := hf
    rw [exec, execInit, command_clear hf, complete_eq hinit]
    rfl
  · rw [← initialDigest_bytes]
    exact exec_digest_eq hf

/-! ## RUN does not look at the last answer -/

theorem loadChunk_setResult (s : State) (r : Option Result) (bytes : List Byte) (eod : Bool) :
    (s.setResult r).loadChunk bytes eod = (s.loadChunk bytes eod).setResult r := by
  unfold State.loadChunk
  dsimp only
  split_ifs <;> rfl

theorem lengthBlock_setResult (s : State) (r : Option Result) :
    (s.setResult r).lengthBlock = s.lengthBlock.setResult r := by
  unfold State.lengthBlock
  generalize List.replicate 64 0#8 = zeros
  rfl

theorem nextBlock_setResult (h : nextBlock s = .next t) (r : Option Result) :
    nextBlock (s.setResult r) = .next (t.setResult r) := by
  obtain ⟨hl, e⟩ | ⟨hl, e⟩ | ⟨hl, he, e⟩ | ⟨hl, he, a, rest, hr, e⟩ | ⟨_, _, _, e⟩ := nextBlock_cases s <;>
    rw [e] at h <;> cases h
  · simp only [nextBlock, setResult_lstate, hl]
    rfl
  · simp only [nextBlock, setResult_lstate, hl, lengthBlock_setResult]
  · simp only [nextBlock, setResult_lstate, hl, setResult_eodLatched, he, if_true, loadChunk_setResult, emptyAnswer]
  · have hsrc : (s.setResult r).setSrc rest = (s.setSrc rest).setResult r := rfl
    simp only [nextBlock, setResult_lstate, hl, setResult_eodLatched, he, setResult_src, hr, Bool.false_eq_true,
      if_false, hsrc, loadChunk_setResult]

theorem compressed_setResult (t : State) (r : Option Result) :
    (t.setResult r).compressed = t.compressed.setResult r := by
  have hword : (t.setResult r).bufWord = t.bufWord := rfl
  rw [State.compressed, hword, setResult_digest, chainedWith_setResult, State.compressed]

/-- An answer that COMPRESS's overwrites is forgotten. -/
theorem complete_compressed_complete (t : State) (x y : ResultData) :
    (t.complete x).compressed.complete y = t.compressed.complete y := by
  have hover : ∀ (u : State) (r : Option Result), (u.setResult r).complete y = u.complete y := fun _ _ => rfl
  have hx : t.complete x = t.setResult (some ⟨t.fault, t.faultCode, x⟩) := rfl
  rw [hx, compressed_setResult, hover]

theorem exec_run_setResult (hf : s.fault = false) (hs : s.step = 0#7) :
    ∀ r, exec .run (s.setResult r) = exec .run s := by
  refine run_induction (P := fun s => ∀ r, exec .run (s.setResult r) = exec .run s) ?done ?silent ?endless ?pass hf hs
  case done =>
    intro s hf hd r
    rw [exec_run_done hf hd, exec_run_done (s := s.setResult r) hf hd]
    rfl
  case silent =>
    intro s hf hs hl he hr r
    rw [exec_run_silent hf hs hl he hr, exec_run_silent (s := s.setResult r) hf hs hl he hr]
  case endless =>
    intro s hf hs h r
    rw [exec_run_endless hf hs h, exec_run_endless (s := s.setResult r) hf hs h]
  case pass =>
    intro s t hf hs hd h ih r
    rw [exec_run_of_nextBlock hd hf hs h,
      exec_run_of_nextBlock (s := s.setResult r) hd hf hs (nextBlock_setResult h r), compressed_setResult, ih r]

/-- With `fault` clear and the engine idle COMPRESS completes. -/
theorem exec_compress_eq (hf : t.fault = false) (hs : t.step = 0#7) :
    exec .compress t = .next (t.compressed.complete .nothing) := by
  rw [exec, execCompress, command_clear hf, compressBlock_eq hs, andThen_next]

/-- Settles O37: a pass is NEXT and COMPRESS but for their answers, which the RUN after them does not look at. -/
theorem runIsLoop : Obligations.RunIsLoop := by
  unfold Obligations.RunIsLoop
  refine fun s hf hs => ⟨exec_run_done hf, fun hd => ?_⟩
  rw [exec_run_pass hd hf hs, absorb_eq hd hf hs, exec, execNext, command_clear hf, andThen_assoc, andThen_assoc]
  cases h : nextBlock s with
  | fault r => rfl
  | refused r => rfl
  | next t =>
    obtain ⟨hft, hst⟩ := nextBlock_idle hd hf hs h
    have hrun := exec_run_setResult (s := t.compressed) (by simpa using hft) (by simpa using hst)
    simp only [andThen_next]
    rw [exec_compress_eq (t := t.complete t.nextData) hft hst, andThen_next, complete_compressed_complete]
    exact (hrun _).symm

end Sys2Proof.Machine
end

section
/-! PROOFS. RUN ends exactly when the source comes to the end of the message (42_driver.md R183). -/

namespace Sys2Proof.Machine

open Claims

variable {s t : State} {x rest : Source} {a : SourceAnswer}

/-- A source delivers an answer that ends a message exactly when its next answer does, or the source after it delivers
one. -/
theorem delivers_iff_of_sourceRead (h : sourceRead x = some (a, rest)) :
    Delivers x ↔ EndsMessage a ∨ Delivers rest := by
  obtain ⟨b, pending, hp, e⟩ | ⟨_, ht, e⟩ | ⟨_, _, e⟩ | ⟨hp, id, read, full, ht, e⟩ := sourceRead_cases x <;>
    rw [e] at h <;> cases h
  · simp only [Delivers, hp, List.exists_mem_cons_iff]
    rw [or_left_comm (b := EndsMessage a), or_left_comm (b := EndsMessage a)]
  · have hshort : EndsMessage emptyAnswer := .inl (by decide)
    have hx : Delivers x := .inl ht
    simp only [hshort, hx, true_or]
  · cases full with
    | none => simp [Delivers, EndsMessage, hp, ht, streamRead]
    | some n =>
      cases n with
      | zero => simp [Delivers, EndsMessage, hp, ht, streamRead, streamEnd_ends]
      | succ n => simp [Delivers, EndsMessage, hp, ht, streamRead]

/-- A source that never answers delivers no end of a message, and is silent. -/
theorem not_delivers_of_unanswered (h : sourceRead x = none) : ¬ Delivers x ∧ x.tail = .silent := by
  obtain ⟨_, _, _, e⟩ | ⟨_, _, e⟩ | ⟨hp, ht, _⟩ | ⟨_, _, _, _, _, e⟩ := sourceRead_cases x
  · rw [e] at h; cases h
  · rw [e] at h; cases h
  · exact ⟨by simp [Delivers, hp, ht], ht⟩
  · rw [e] at h; cases h

/-- A source falls silent after an answer exactly when it does before it. -/
theorem silent_iff_of_sourceRead (h : sourceRead x = some (a, rest)) : rest.tail = .silent ↔ x.tail = .silent := by
  by_cases ht : x.tail = .silent
  · obtain ⟨_, _, _, e⟩ | ⟨_, hended, _⟩ | ⟨_, _, e⟩ | ⟨_, _, _, _, hstream, _⟩ := sourceRead_cases x
    · rw [e] at h; cases h; rfl
    · rw [ht] at hended; cases hended
    · rw [e] at h; cases h
    · rw [ht] at hstream; cases hstream
  · obtain ⟨_, _, e, hrest⟩ := sourceRead_answers ht
    rw [e] at h
    cases h
    simp only [hrest, ht]

/-- The message's end is in the loader, or the source delivers it (R183). -/
def State.Ends (s : State) : Prop := s.lstate ≠ .reading ∨ s.eodLatched = true ∨ Delivers s.src

/-- COMPRESS's body does not touch the loader or the source (41_engine.md R158). -/
theorem ends_compressed : t.compressed.Ends ↔ t.Ends := by
  simp [State.Ends]

/-- The loader waits for the message's end exactly when the chunk placed and the source after it did not bring it
(40_loader.md R114 to R119). -/
theorem ends_loadChunk (hl : s.lstate = .reading) :
    (s.loadChunk a.bytes a.eod).Ends ↔ EndsMessage a ∨ Delivers s.src := by
  obtain ⟨_, _, hsrc⟩ := loadChunk_frame s a.bytes a.eod
  obtain ⟨cfull, cfits, cspills⟩ := loadChunk_control s a.bytes a.eod
  have hshort := a.short
  by_cases h64 : a.bytes.length = 64
  · simp [State.Ends, EndsMessage, cfull h64, hl, hsrc, h64]
  · have hlt : a.bytes.length < 64 := by omega
    have hlstate : (s.loadChunk a.bytes a.eod).lstate ≠ .reading := by
      by_cases h55 : a.bytes.length ≤ 55
      · simp [cfits h55]
      · simp [cspills h64 h55]
    simp [State.Ends, EndsMessage, hlstate, hlt]

/-- NEXT's body outside DONE neither finds nor loses the message's end. -/
theorem ends_nextBlock (hd : s.lstate ≠ .done) (h : nextBlock s = .next t) : t.Ends ↔ s.Ends := by
  obtain ⟨hl, _⟩ | ⟨hl, e⟩ | ⟨hl, he, e⟩ | ⟨hl, he, a, rest, hr, e⟩ | ⟨_, _, _, e⟩ := nextBlock_cases s
  · exact absurd hl hd
  all_goals rw [e] at h; cases h
  · obtain ⟨_, _, _, _, hdone⟩ := lengthBlock_frame s
    simp [State.Ends, hdone, hl]
  · obtain ⟨hdone, _⟩ := (loadChunk_control s [] true).2.1 (Nat.zero_le 55)
    simp [State.Ends, hdone, he]
  · rw [ends_loadChunk (s := s.setSrc rest) hl, setSrc_src, ← delivers_iff_of_sourceRead hr]
    simp [State.Ends, hl, he]

/-- NEXT's body does not make the source fall silent. -/
theorem silent_nextBlock (h : nextBlock s = .next t) : t.src.tail = .silent ↔ s.src.tail = .silent := by
  obtain hsrc | ⟨_, _, a, hr⟩ := nextBlock_src h
  · rw [hsrc]
  · exact silent_iff_of_sourceRead hr

/-- Full chunks without end are no end of a message, and no silence. -/
theorem State.Endless.not_ends (h : s.Endless) : ¬ s.Ends ∧ s.src.tail ≠ .silent := by
  obtain ⟨hl, he, id, read, hsrc⟩ := h
  simp [State.Ends, Delivers, hl, he, hsrc]

/-- RUN completes where the message's end is to come. -/
theorem exec_run_goes (hf : s.fault = false) (hs : s.step = 0#7) : s.Ends → Goes (exec .run s) := by
  refine run_induction (P := fun s => s.Ends → Goes (exec .run s)) ?done ?silent ?endless ?pass hf hs
  case done => exact fun s hf hd _ => ⟨_, exec_run_done hf hd⟩
  case silent =>
    intro s _ _ hl he hr h
    simp [State.Ends, hl, he, (not_delivers_of_unanswered hr).1] at h
  case endless => exact fun s _ _ h hends => absurd hends h.not_ends.1
  case pass =>
    intro s t hf hs hd h ih hends
    rw [exec_run_of_nextBlock hd hf hs h]
    exact ih (ends_compressed.mpr ((ends_nextBlock hd h).mpr hends))

/-- RUN stops where the message's end is not to come: as silent where the source falls silent, else as endless. -/
theorem exec_run_stops (hf : s.fault = false) (hs : s.step = 0#7) : ¬ s.Ends →
    exec .run s = .fault (if s.src.tail = .silent then .sourceSilent else .sourceEndless) := by
  refine run_induction (P := fun s => ¬ s.Ends →
    exec .run s = .fault (if s.src.tail = .silent then .sourceSilent else .sourceEndless))
    ?done ?silent ?endless ?pass hf hs
  case done => exact fun s _ hd h => absurd (.inl (by simp [hd])) h
  case silent =>
    intro s hf hs hl he hr _
    rw [exec_run_silent hf hs hl he hr, if_pos (not_delivers_of_unanswered hr).2]
  case endless =>
    intro s hf hs h _
    rw [exec_run_endless hf hs h, if_neg h.not_ends.2]
  case pass =>
    intro s t hf hs hd h ih hends
    rw [exec_run_of_nextBlock hd hf hs h,
      ih fun hends' => hends ((ends_nextBlock hd h).mp (ends_compressed.mp hends'))]
    simp only [compressed_src, silent_nextBlock h]

/-- Settles O36: by induction over the passes, each of which keeps whether the message's end is to come. -/
theorem runEndsWithSource : Obligations.RunEndsWithSource := by
  unfold Obligations.RunEndsWithSource
  refine fun s hf hs => ⟨fun hends => ?_, fun hl he hnot => ?_⟩
  · obtain ⟨t, e⟩ := exec_run_goes hf hs hends
    obtain ⟨hdone, hfault, hstep, _, hresult⟩ := exec_run_end hf hs e
    exact ⟨t, e, hdone, by simp [more_eq, hdone], hfault, hstep, hresult⟩
  · have hstop := exec_run_stops hf hs (by simp [State.Ends, hl, he, hnot])
    exact ⟨fun ht => by rw [hstop, if_pos ht], fun ht => by rw [hstop, if_neg ht]⟩

end Sys2Proof.Machine
end

section
/-! PROOFS. RUN computes the MD5 state of the bytes delivered (42_driver.md R185, R186). -/

namespace Sys2Proof.Machine

open Claims

variable {s t : State} {m n : Nat} {latch : Bool} {c : Count} {x y rest : Source} {a : SourceAnswer} {bytes : List Byte}

/-! ## The padded message -/

/-- The last bytes of a message of `n` bits with their padding (30_encoding.md R91). -/
def paddedEnd (n : Nat) (bytes : List Byte) : List Byte :=
  bytes ++ 0x80#8 :: (List.replicate ((119 - bytes.length % 64) % 64) 0#8 ++ countBytes n)

theorem padded_eq_paddedEnd (msg : List Byte) : padded msg = paddedEnd (8 * msg.length) msg := rfl

/-- Whole blocks in front leave the padding as it is. -/
theorem paddedEnd_append {chunk : List Byte} (h : chunk.length = 64) (n : Nat) (bytes : List Byte) :
    paddedEnd n (chunk ++ bytes) = chunk ++ paddedEnd n bytes := by
  simp [paddedEnd, h]

@[simp] theorem countBytes_length (n : Nat) : (countBytes n).length = 8 := rfl

/-- The length suffix the loader writes is the message's count (40_loader.md R117). -/
theorem countBytes_eq_lengthBytes (n : Nat) : countBytes n = lengthBytes (BitVec.ofNat 64 n) := by
  apply List.ext_getElem?
  intro i
  by_cases hi : i < 8
  · rw [getElem?_lengthBytes _ hi, countBytes, List.getElem?_map, List.getElem?_range hi, Option.map_some]
    congr 1
    apply BitVec.eq_of_toNat_eq
    rw [BitVec.extractLsb'_toNat, BitVec.toNat_ofNat, BitVec.toNat_ofNat, Nat.shiftRight_eq_div_pow]
    interval_cases i <;> omega
  · rw [List.getElem?_eq_none (by rw [countBytes_length]; omega),
      List.getElem?_eq_none (by rw [lengthBytes_length]; omega)]

/-- Byte `j` of the padded end: message, marker, zeros, count. -/
theorem getElem?_paddedEnd (n : Nat) (bytes : List Byte) (j : Nat) :
    (paddedEnd n bytes)[j]? =
      if j < bytes.length then bytes[j]?
      else if j = bytes.length then some Rom.marker
      else if j < bytes.length + 1 + (119 - bytes.length % 64) % 64 then some 0#8
      else (lengthBytes (BitVec.ofNat 64 n))[j - (bytes.length + 1 + (119 - bytes.length % 64) % 64)]? := by
  rw [paddedEnd, List.getElem?_append, ← countBytes_eq_lengthBytes]
  split_ifs with h1 h2 h3
  · rfl
  · simp [h2, Rom.marker]
  · obtain ⟨i, rfl⟩ : ∃ i, j = bytes.length + (i + 1) := ⟨j - bytes.length - 1, by omega⟩
    rw [Nat.add_sub_cancel_left, List.getElem?_cons_succ,
      List.getElem?_append_left (by rw [List.length_replicate]; omega), List.getElem?_replicate, if_pos (by omega)]
  · obtain ⟨i, rfl⟩ : ∃ i, j = bytes.length + (i + 1) := ⟨j - bytes.length - 1, by omega⟩
    rw [Nat.add_sub_cancel_left, List.getElem?_cons_succ,
      List.getElem?_append_right (by rw [List.length_replicate]; omega), List.length_replicate]
    congr 1
    omega

/-! ## The blocks the loader places -/

/-- The buffer holds the first block of `bytes`. -/
def State.HoldsBlock (t : State) (bytes : List Byte) : Prop := ∀ j, j < 64 → Memory.read t.buf j = bytes[j]?

/-- A full chunk is the next block of the message (R114). -/
theorem loadChunk_holds_chunk (s : State) {chunk : List Byte} (eod : Bool) (h : chunk.length = 64) (bytes : List Byte) :
    (s.loadChunk chunk eod).HoldsBlock (chunk ++ bytes) := by
  intro j hj
  rw [loadChunk_full_read s eod h, if_pos hj, List.getElem?_append_left (by omega)]

/-- A chunk the length fits behind is the last block (R118). -/
theorem loadChunk_holds_last (eod : Bool) (h : bytes.length ≤ 55)
    (hn : s.msize + BitVec.ofNat 64 (8 * bytes.length) = BitVec.ofNat 64 n) :
    (s.loadChunk bytes eod).HoldsBlock (paddedEnd n bytes) := by
  intro j hj
  have hzeros : bytes.length + 1 + (119 - bytes.length % 64) % 64 = 56 := by omega
  rw [loadChunk_fits_read s eod h hj, getElem?_paddedEnd, hzeros, hn]

/-- A chunk the length does not fit behind is the last block but one (R119). -/
theorem loadChunk_holds_spilled (s : State) (eod : Bool) (h56 : ¬ bytes.length ≤ 55) (h63 : bytes.length ≤ 63)
    (n : Nat) : (s.loadChunk bytes eod).HoldsBlock (paddedEnd n bytes) := by
  intro j hj
  have hzeros : bytes.length + 1 + (119 - bytes.length % 64) % 64 = 120 := by omega
  rw [loadChunk_nofit_read s eod h63 h56 hj, getElem?_paddedEnd, hzeros, if_pos (show j < 120 by omega)]

/-- The length block is the rest of a message whose length did not fit (R120). -/
theorem lengthBlock_holds_rest (h56 : ¬ bytes.length ≤ 55) (h63 : bytes.length ≤ 63)
    (hn : s.msize = BitVec.ofNat 64 n) : s.lengthBlock.HoldsBlock ((paddedEnd n bytes).drop 64) := by
  intro j hj
  have hzeros : bytes.length + 1 + (119 - bytes.length % 64) % 64 = 120 := by omega
  have hlast : 64 + j < 120 ↔ j < 56 := by omega
  have hcount : 64 + j - 120 = j - 56 := by omega
  rw [lengthBlock_read s hj, List.getElem?_drop, getElem?_paddedEnd, hzeros,
    if_neg (show ¬ 64 + j < bytes.length by omega), if_neg (show ¬ 64 + j = bytes.length by omega), hn]
  simp only [hlast, hcount]

/-- The Words of a buffer that holds a block are the block's (20_memory.md R51). -/
theorem bufWord_of_holdsBlock (hfull : Memory.full t.buf) (h : t.HoldsBlock bytes) {k : Nat} (hk : k < 16) :
    t.bufWord k = wordAt bytes k := by
  have hbyte : ∀ j, j < 64 → t.bufByte j = bytes.getD j 0#8 := by
    intro j hj
    obtain ⟨v, hv⟩ := Option.isSome_iff_exists.mp (hfull j hj)
    rw [bufByte_of_read hv, List.getD_eq_getElem?_getD, ← h j hj, hv, Option.getD_some]
  rw [State.bufWord, hbyte _ (by omega), hbyte _ (by omega), hbyte _ (by omega), hbyte _ (by omega)]
  rfl

/-! ## One more block of the chaining -/

/-- The recursion of `Claims.chained` with any function in the place of CE: the kernel, asked to unfold the recursion,
then has no 64 steps to run. -/
def chainedBy (ce : Quad → (Nat → Word) → Quad) : Nat → List Byte → Quad → Quad
  | 0, _, h => h
  | m + 1, bytes, h => chainedBy ce m (bytes.drop 64) (ce h (wordAt bytes))

theorem chained_eq_chainedBy : chained = chainedBy compressed := by
  delta chained chainedBy
  rfl

/-- The first block is compressed first (42_driver.md R186). -/
theorem chained_succ (m : Nat) (bytes : List Byte) (h : Quad) :
    chained (m + 1) bytes h = chained m (bytes.drop 64) (compressed h (wordAt bytes)) := by
  rw [chained_eq_chainedBy, chainedBy]

/-! ## RUN over the blocks -/

/-- From `s` RUN completes in DONE with the source at `x`, and has chained the first `m` blocks of `bytes`. -/
def RunChains (m : Nat) (bytes : List Byte) (s : State) (x : Source) : Prop :=
  ∃ t, exec .run s = .next t ∧ t.digest = chained m bytes s.digest ∧ t.lstate = .done ∧ t.src = x

/-- In DONE no block is left. -/
theorem runChains_zero (hf : s.fault = false) (hd : s.lstate = .done) (bytes : List Byte) :
    RunChains 0 bytes s s.src :=
  ⟨_, exec_run_done hf hd, rfl, hd, rfl⟩

/-- A pass whose NEXT places the first block chains it (R186). -/
theorem RunChains.succ (hf : s.fault = false) (hs : s.step = 0#7) (hd : s.lstate ≠ .done) (h : nextBlock s = .next t)
    (hblock : t.HoldsBlock bytes) (hrun : RunChains m (bytes.drop 64) t.compressed x) :
    RunChains (m + 1) bytes s x := by
  obtain ⟨u, e, hdigest, hdone, hsrc⟩ := hrun
  refine ⟨u, (exec_run_of_nextBlock hd hf hs h).trans e, ?_, hdone, hsrc⟩
  have hwords : shifted t.bufWord 64 t.digest = shifted (wordAt bytes) 64 t.digest :=
    shifted_congr (fun k hk => bufWord_of_holdsBlock (nextBlock_full hd h) hblock hk) t.digest 64
  obtain ⟨hd', _⟩ | ⟨_, ⟨hsame, _⟩, _⟩ := nextBlock_frame h
  · exact absurd hd' hd
  · rw [hdigest, compressed_digest, chained_succ, compressed, hwords, hsame, compressed]

/-- One pass is left of a message whose last block NEXT places (40_loader.md R123). -/
theorem runChains_last (hf : s.fault = false) (hs : s.step = 0#7) (hd : s.lstate ≠ .done) (h : nextBlock s = .next t)
    (hblock : t.HoldsBlock bytes) (hdone : t.lstate = .done) (hsrc : t.src = x) : RunChains 1 bytes s x := by
  have hf' : t.compressed.fault = false := by simp [nextBlock_idle hd hf hs h]
  have hzero := runChains_zero hf' (by simp [hdone]) (bytes.drop 64)
  rw [compressed_src, hsrc] at hzero
  exact hzero.succ hf hs hd h hblock

/-- The engine is idle and the loader in READING, with the latch, the source and the counter given. -/
structure State.Reads (s : State) (latch : Bool) (x : Source) (c : Count) : Prop where
  clear : s.fault = false
  idle : s.step = 0#7
  reading : s.lstate = .reading
  latched : s.eodLatched = latch
  source : s.src = x
  counted : s.msize = c

theorem State.Reads.not_done (h : s.Reads latch x c) : s.lstate ≠ .done := by
  simp [h.reading]

/-- With the latch the last block is the padding of no bytes (R113). -/
theorem runChains_latched (h : s.Reads true x c) (hn : c = BitVec.ofNat 64 n) : RunChains 1 (paddedEnd n []) s x := by
  have hnext : nextBlock s = .next (s.loadChunk [] true) := by simp [nextBlock, h.reading, h.latched, emptyAnswer]
  have hblock : (s.loadChunk [] true).HoldsBlock (paddedEnd n []) :=
    loadChunk_holds_last true (Nat.zero_le 55) (by simpa [h.counted] using hn)
  obtain ⟨_, _, hsrc⟩ := loadChunk_frame s [] true
  obtain ⟨hdone, _⟩ := (loadChunk_control s [] true).2.1 (Nat.zero_le 55)
  exact runChains_last h.clear h.idle h.not_done hnext hblock hdone (hsrc.trans h.source)

/-- In PADDING the last block is the rest of the padding of the chunk before (R120). -/
theorem runChains_padding (hf : s.fault = false) (hs : s.step = 0#7) (hl : s.lstate = .padding)
    (hn : s.msize = BitVec.ofNat 64 n) (h56 : ¬ bytes.length ≤ 55) (h63 : bytes.length ≤ 63) :
    RunChains 1 ((paddedEnd n bytes).drop 64) s s.src := by
  have hnext : nextBlock s = .next s.lengthBlock := by simp [nextBlock, hl]
  obtain ⟨_, _, _, hsrc, hdone⟩ := lengthBlock_frame s
  exact runChains_last hf hs (by simp [hl]) hnext (lengthBlock_holds_rest h56 h63 hn) hdone hsrc

/-- NEXT's body places the answer of the source (R112). -/
theorem State.Reads.nextBlock_eq (h : s.Reads false x c) (hr : sourceRead x = some (a, rest)) :
    nextBlock s = .next ((s.setSrc rest).loadChunk a.bytes a.eod) := by
  simp [nextBlock, h.reading, h.latched, h.source, hr]

/-- A full chunk is one block, and RUN goes on behind it (R114). -/
theorem runChains_chunk (h : s.Reads false x c) (hr : sourceRead x = some (a, rest)) (h64 : a.bytes.length = 64)
    (hrun : ∀ u : State, u.Reads a.eod rest (c + BitVec.ofNat 64 (8 * 64)) → RunChains m (paddedEnd n bytes) u y) :
    RunChains (m + 1) (paddedEnd n (a.bytes ++ bytes)) s y := by
  obtain ⟨⟨_, _, hstep, hfault, _⟩, hmsize, hsrc⟩ := loadChunk_frame (s.setSrc rest) a.bytes a.eod
  obtain ⟨hlstate, hlatch⟩ := (loadChunk_control (s.setSrc rest) a.bytes a.eod).1 h64
  have hblock := loadChunk_holds_chunk (s.setSrc rest) a.eod h64 (paddedEnd n bytes)
  rw [paddedEnd_append h64]
  refine RunChains.succ h.clear h.idle h.not_done (h.nextBlock_eq hr) hblock ?_
  rw [List.drop_left' h64]
  exact hrun _ {
    clear := by simp [hfault, h.clear]
    idle := by simp [hstep, h.idle]
    reading := by simp [hlstate, h.reading]
    latched := by simp [hlatch]
    source := by simp [hsrc]
    counted := by simp [hmsize, h64, h.counted] }

/-- An answer that ends the message takes one block or two, as the marker and the length need (R114 to R119). -/
theorem runChains_end (h : s.Reads false x c) (hr : sourceRead x = some (a, rest)) (hend : EndsMessage a)
    (hn : c + BitVec.ofNat 64 (8 * a.bytes.length) = BitVec.ofNat 64 n) :
    RunChains ((8 * a.bytes.length + 65 + 511) / 512) (paddedEnd n a.bytes) s rest := by
  obtain ⟨⟨_, _, hstep, hfault, _⟩, hmsize, hsrc⟩ := loadChunk_frame (s.setSrc rest) a.bytes a.eod
  obtain ⟨_, cfits, cspills⟩ := loadChunk_control (s.setSrc rest) a.bytes a.eod
  have hshort := a.short
  by_cases h64 : a.bytes.length = 64
  · have heod : a.eod = true := hend.resolve_left (by omega)
    rw [show (8 * a.bytes.length + 65 + 511) / 512 = 1 + 1 by omega, ← List.append_nil a.bytes]
    rw [h64] at hn
    exact runChains_chunk h hr h64 fun u hu => runChains_latched (heod ▸ hu) hn
  rw [← h.counted] at hn
  by_cases h55 : a.bytes.length ≤ 55
  · have hblock := loadChunk_holds_last (s := s.setSrc rest) a.eod h55 hn
    rw [show (8 * a.bytes.length + 65 + 511) / 512 = 1 by omega]
    exact runChains_last h.clear h.idle h.not_done (h.nextBlock_eq hr) hblock (cfits h55).1 hsrc
  · have hblock := loadChunk_holds_spilled (s.setSrc rest) a.eod h55 (by omega) n
    have hlast := runChains_padding (s := ((s.setSrc rest).loadChunk a.bytes a.eod).compressed)
      (by simp [hfault, h.clear]) (by simp [hstep, h.idle]) (by simp [cspills h64 h55]) (by simpa [hmsize] using hn)
      h55 (by omega)
    rw [compressed_src, hsrc] at hlast
    rw [show (8 * a.bytes.length + 65 + 511) / 512 = 1 + 1 by omega]
    exact hlast.succ h.clear h.idle h.not_done (h.nextBlock_eq hr) hblock

/-- RUN over full chunks and then an answer that ends a message, of `n` bits with those counted before (R186). -/
theorem runChains_message (full : List SourceAnswer) {last : SourceAnswer} {pending : List SourceAnswer}
    {tail : SourceTail}
    (hfull : ∀ a ∈ full, a.bytes.length = 64 ∧ a.eod = false) (hend : EndsMessage last) :
    let msg := ((full ++ [last]).map (·.bytes)).flatten
    ∀ {s : State} {c : Count}, s.Reads false ⟨full ++ last :: pending, tail⟩ c →
      c + BitVec.ofNat 64 (8 * msg.length) = BitVec.ofNat 64 n →
      RunChains ((8 * msg.length + 65 + 511) / 512) (paddedEnd n msg) s ⟨pending, tail⟩ := by
  induction full with
  | nil =>
    intro msg s c h hn
    have hmsg : msg = last.bytes := by simp [msg]
    rw [hmsg] at hn ⊢
    exact runChains_end h rfl hend hn
  | cons a full ih =>
    intro msg s c h hn
    obtain ⟨⟨h64, heod⟩, hfull⟩ := List.forall_mem_cons.mp hfull
    have hmsg : msg = a.bytes ++ ((full ++ [last]).map (·.bytes)).flatten := rfl
    rw [hmsg, List.length_append, h64] at hn ⊢
    rw [Nat.mul_add, BitVec.ofNat_add, ← BitVec.add_assoc] at hn
    rw [show ∀ k, (8 * (64 + k) + 65 + 511) / 512 = (8 * k + 65 + 511) / 512 + 1 by omega]
    exact runChains_chunk h rfl h64 fun u hu => ih hfull (heod ▸ hu) hn

/-! ## The digest -/

/-- The 16 bytes of R184 are the four Words' bytes in order. -/
theorem serialised_eq_bytes (q : Quad) : serialised q = q.bytes := rfl

/-- Settles O38: the loader's blocks are those of the padded message, and DIGEST returns the bytes of their chaining. -/
theorem runComputesDigest : Obligations.RunComputesDigest := by
  unfold Obligations.RunComputesDigest
  intro s full last rest hf hs hl he hmsize hdigest hsrc hfull hend msg
  have hreads : s.Reads false ⟨full ++ last :: rest, s.src.tail⟩ 0#64 := ⟨hf, hs, hl, he, by rw [← hsrc], hmsize⟩
  obtain ⟨t, e, hchained, hdone, hx⟩ := runChains_message full hfull hend hreads (BitVec.zero_add _)
  obtain ⟨_, hft, _, hcode, _⟩ := exec_run_end hf hs e
  have hmd5 : t.digest = md5 msg := by rw [hchained, hdigest, md5, padded_eq_paddedEnd]
  refine ⟨t, e, hmd5, hdone, hx, ?_⟩
  rw [exec_digest_eq hft, serialised_eq_bytes, ← hmd5, hcode]

end Sys2Proof.Machine
end

section
/-! PROOFS. The fault: the one NEXT that raises it, and what is kept while it stands (60_exceptions.md R200 to R207). -/

namespace Sys2Proof.Machine

variable {s t : State}

/-! ## Raising LOADER_SEQ -/

/-- With `fault` clear NEXT in DONE raises LOADER_SEQ and returns no data (R200, R201; 40_loader.md R121). -/
theorem exec_next_done (hf : s.fault = false) (hl : s.lstate = .done) :
    exec .next s = .next (s.raiseLoaderSeq.complete .nothing) :=
  (exec_next_eq_next hf).mpr ⟨s.raiseLoaderSeq, by simp [nextBlock, hl], rfl⟩

/-- Settles O16: raising the fault is two writes, and NEXT's answer is the third. -/
theorem nextInDoneRaises : Obligations.NextInDoneRaises := by
  unfold Obligations.NextInDoneRaises
  exact fun s hf hl => ⟨.nothing, nofun, exec_next_done hf hl⟩

/-- NEXT is the only instruction of its column. -/
theorem eq_next_of_kind {i : Instr} (h : i.kind = .next) : i = .next := by
  cases i with
  | next => rfl
  | _ => cases h

/-- Settles O40: by the access table only NEXT writes the fault, and NEXT's body outside DONE leaves it. -/
theorem onlyNextInDoneFaults : Obligations.OnlyNextInDoneFaults := by
  unfold Obligations.OnlyNextInDoneFaults
  refine ⟨fun i s t hf e ht => ?_, fun s hf hl => ⟨_, exec_next_done hf hl, rfl⟩⟩
  obtain ⟨_, _, _, _, _, _, hkeeps, _⟩ := accessTable i s t e
  have hkind : i.kind = .next := by
    by_contra hk
    simp [(hkeeps hk).1, hf] at ht
  obtain rfl := eq_next_of_kind hkind
  obtain ⟨u, hu, rfl⟩ := (exec_next_eq_next hf).mp e
  obtain ⟨hl, rfl⟩ | ⟨_, ⟨_, _, _, hfault, _⟩, _⟩ := nextBlock_frame hu
  · exact ⟨rfl, hl, rfl⟩
  · simp [hfault, hf] at ht

/-! ## While `fault` is 1 -/

/-- With `fault` set a command is its answer alone, with data of its own or with a free value (R203; log 8). -/
theorem exec_command_faulted {i : Instr} (hc : i.isCommand = true) (hf : s.fault = true) :
    (∃ x, exec i s = .next (s.complete x)) ∨ ∃ x, exec i s = .next (s.completeFree x) := by
  cases i with
  | init => rw [exec, execInit]; exact .inl ⟨_, command_faulted hf⟩
  | hasmore => rw [exec, execHasmore]; exact .inr ⟨_, command_faulted hf⟩
  | next => rw [exec, execNext]; exact .inr ⟨_, command_faulted hf⟩
  | compress => rw [exec, execCompress]; exact .inl ⟨_, command_faulted hf⟩
  | digest => rw [exec, execDigest]; exact .inr ⟨_, command_faulted hf⟩
  | run => rw [exec, execRun]; exact .inl ⟨_, command_faulted hf⟩
  | _ => cases hc

/-- Settles O39: either answer writes the result, with the status pair as it stands, and at most counts a draw. -/
theorem faultedCommandsDoNothing : Obligations.FaultedCommandsDoNothing := by
  unfold Obligations.FaultedCommandsDoNothing
  intro i s hc hf
  obtain ⟨x, e⟩ | ⟨x, e⟩ := exec_command_faulted hc hf
  · exact ⟨_, _, e, rfl, by rw [complete_result, hf]⟩
  · exact ⟨_, _, e, rfl, by rw [completeFree_result, hf]⟩

/-- With `fault` set a command code is answered at once, or refused where it is no command's: it never waits. -/
theorem perform_cmd_faulted (c : BitVec 3) (hf : s.fault = true) :
    (∃ t, perform (.cmd c) s = .next t ∧ Answered s t) ∨ ∃ r, perform (.cmd c) s = .refused r := by
  cases hd : decode (.cmd c) with
  | error r => exact .inr ⟨_, perform_error hd s⟩
  | ok i =>
    rw [perform_ok hd]
    obtain ⟨x, e⟩ | ⟨x, e⟩ := exec_command_faulted (decodeCmd_isCommand hd) hf
    · exact .inl ⟨_, e, complete_answered s x⟩
    · exact .inl ⟨_, e, completeFree_answered s x⟩

/-- With `fault` set and no reset next, the host's next input changes its own list and the source, and of the core
nothing but the answer (R203). -/
theorem stepHost_faulted (hf : s.fault = true) (hr : s.resetNext = false) (e : stepHost s = .next t) :
    ∃ rest x, Answered ((s.setHost rest).setSrc x) t := by
  obtain ⟨_, e'⟩ | ⟨c, rest, hh, e'⟩ | ⟨x, rest, _, e'⟩ := stepHost_cases s hr
  · cases e.symm.trans e'
    exact ⟨s.host, s.src, s.result, s.draws, rfl⟩
  · obtain ⟨v, hv, ha⟩ | ⟨r, hrefused⟩ := perform_cmd_faulted (s := s.setHost rest) c hf
    · cases e.symm.trans (stepHost_command hh hv)
      exact ⟨rest, s.src, ha⟩
    · rw [e', hrefused] at e
      cases e
  · cases e.symm.trans e'
    exact ⟨rest, x, s.result, s.draws, rfl⟩

/-- Settles O41: a state with the invariant is between commands, so the step is the host's next input. -/
theorem faultIsSticky : Obligations.FaultIsSticky := by
  unfold Obligations.FaultIsSticky
  intro s t hinv hf e hr
  rw [step_idle hinv.unforced hinv.idle] at e
  obtain ⟨rest, x, r, d, rfl⟩ := stepHost_faulted hf hr e
  exact ⟨hf, rfl, rfl, rfl, rfl, rfl, rfl, rfl⟩

end Sys2Proof.Machine
end

section
/-! PROOFS. Reset in any state, and in place of a command that waits for the source or does not end (70_reset_and_hazards.md
R230). -/

namespace Sys2Proof.Machine

variable {s : State} {c : BitVec 3} {i : Instr} {rest : List HostInput}

/-- With nothing placed reset is taken at once, also where the round controller is busy (60_exceptions.md R205). -/
theorem step_reset (hf : s.forced = none) (hh : s.host = .reset :: rest) :
    step s = .next (s.setHost rest).applyReset := by
  have hr : s.resetNext = true := by rw [State.resetNext, hh]
  simp [stepMachine, hf, hr, stepHost, hh]

/-- What the spec names of the state after reset, and what is outside the core (10_state.md R35; log 19). -/
theorem applyReset_values (u : State) :
    u.applyReset.digest = State.reset.digest ∧ u.applyReset.lstate = .reading ∧ u.applyReset.msize = 0#64 ∧
    u.applyReset.eodLatched = false ∧ u.applyReset.step = 0#7 ∧ u.applyReset.fault = false ∧
    u.applyReset.faultCode = 0#2 ∧ u.applyReset.buf = [] ∧ u.applyReset.host = u.host ∧ u.applyReset.src = u.src :=
  ⟨rfl, rfl, rfl, rfl, rfl, rfl, rfl, rfl, rfl, rfl⟩

/-- Settles O44: the step is the reset of the state with that input taken. -/
theorem resetFromAnywhere : Obligations.ResetFromAnywhere := by
  unfold Obligations.ResetFromAnywhere
  exact fun s rest hf hh => ⟨_, step_reset hf hh, applyReset_values (s.setHost rest)⟩

/-- With nothing placed and the engine idle, a command at the head of the host's inputs is executed, or abandoned where it
waits or does not end and reset is next. -/
theorem step_command_unlessReset (hf : s.forced = none) (hs : s.step = 0#7) (hh : s.host = .command c :: rest)
    (hd : decode (.cmd c) = .ok i) :
    step s = unlessReset (exec i (s.setHost rest)) (s.setHost rest) := by
  rw [step_idle hf hs, stepHost, hh, ← perform_ok hd]

/-- A command that waits for the source is abandoned with its listed answers used up (20_memory.md R60; log 4). -/
theorem unlessReset_silent (hh : s.host = .reset :: rest) :
    unlessReset (.fault .sourceSilent) s = .next ((s.setHost rest).setSrc s.src.exhausted).applyReset := by
  simp [unlessReset, hh]

/-- A command that does not end is abandoned after a free number of answers (42_driver.md R183; log 19). -/
theorem unlessReset_endless (hh : s.host = .reset :: rest) :
    unlessReset (.fault .sourceEndless) s =
      .next (((s.setHost rest).setSrc (s.src.afterReads (Config.abandonedReads s.draws))).setDraws
        (s.draws + 1)).applyReset := by
  simp [unlessReset, hh]

/-- Settles O45: the abandoned command's step is the reset of a state that differs in the host's inputs and the source, and
with no reset next the waiting NEXT is left as it is. -/
theorem resetAbandonsWaitingCommand : Obligations.ResetAbandonsWaitingCommand := by
  unfold Obligations.ResetAbandonsWaitingCommand
  refine fun s rest hf hs => ⟨fun c i hh hd hsilent => ?silent, fun c i hh hd hendless => ?endless,
    fun hh hno hfault hl he hsrc => ?waits⟩
  case silent =>
    refine ⟨_, ?_, applyReset_values ((s.setHost rest).setSrc s.src.exhausted)⟩
    rw [step_command_unlessReset hf hs hh hd, State.setHost, hsilent]
    exact unlessReset_silent rfl
  case endless =>
    refine ⟨_, Config.abandonedReads s.draws, ?_, applyReset_values (((s.setHost rest).setSrc
      (s.src.afterReads (Config.abandonedReads s.draws))).setDraws (s.draws + 1))⟩
    rw [step_command_unlessReset hf hs hh hd, State.setHost, hendless]
    exact unlessReset_endless rfl
  case waits =>
    obtain ⟨_, _, _, _, hsilent⟩ := sourceAnswersInOrder
    rw [step_command_unlessReset hf hs hh (i := .next) rfl, unlessReset_eq_self (.inl hno)]
    exact hsilent (s.setHost rest) hfault hl he hsrc

end Sys2Proof.Machine
end

section
/-! PROOFS. Runs of the six commands, RUN among them, against sources that go on with `(0, empty, 1)`
(70_reset_and_hazards.md R240; 42_driver.md R183). -/

namespace Sys2Proof.Machine

variable {s t u : State} {i : Instr} {c : BitVec 3} {x rest : Source} {a : SourceAnswer}

/-! ## The source goes on with `(0, empty, 1)` -/

theorem ended_of_sourceRead (h : sourceRead x = some (a, rest)) (ht : x.tail = .ended) : rest.tail = .ended := by
  obtain ⟨_, _, _, e⟩ | ⟨_, _, e⟩ | ⟨_, _, e⟩ | ⟨_, _, _, _, hstream, _⟩ := sourceRead_cases x
  · cases e.symm.trans h; exact ht
  · cases e.symm.trans h; exact ht
  · cases e.symm.trans h
  · cases ht.symm.trans hstream

theorem ended_nextBlock (h : nextBlock s = .next t) (ht : s.src.tail = .ended) : t.src.tail = .ended := by
  obtain hsrc | ⟨_, _, a, hr⟩ := nextBlock_src h
  · rw [hsrc]; exact ht
  · exact ended_of_sourceRead hr ht

theorem ended_compressBlock (h : compressBlock s = .next t) (ht : s.src.tail = .ended) : t.src.tail = .ended := by
  obtain ⟨⟨_, _, _, _, _, _, hsrc, _⟩, _⟩ := compressBlock_frame h
  rw [hsrc]; exact ht

/-- A pass of RUN's loop is NEXT's body and then COMPRESS's. -/
theorem ended_absorb (h : absorb s = .next t) (ht : s.src.tail = .ended) : t.src.tail = .ended := by
  obtain ⟨_, hnext, hcompress⟩ := andThen_eq_next.mp h
  exact ended_compressBlock hcompress (ended_nextBlock hnext ht)

/-- No command changes what the source goes on with. -/
theorem CommandEffect.ended (h : CommandEffect s i u) (ht : s.src.tail = .ended) : u.src.tail = .ended := by
  cases h with
  | init | hasmore | digest => exact ht
  | next h => exact ended_nextBlock h ht
  | compress h => exact ended_compressBlock h ht
  | run h => exact runLoop_induction (P := fun v => v.src.tail = .ended) (fun _ _ _ => ended_absorb) _ h ht

theorem exec_command_ended (hc : i.isCommand = true) (h : exec i s = .next t) (ht : s.src.tail = .ended) :
    t.src.tail = .ended := by
  obtain ⟨u, ⟨_, _, rfl⟩, ⟨_, rfl⟩ | ⟨_, effect⟩⟩ := exec_command_effect hc h
  · exact ht
  · exact effect.ended ht

/-! ## Commands that go -/

/-- Each of the six commands goes with the engine idle, RUN because the source comes to the end of the message (R183). -/
theorem exec_command_goes_of_ended (hc : i.isCommand = true) (hs : s.step = 0#7) (ht : s.src.tail = .ended) :
    Goes (exec i s) := by
  by_cases hrun : i = .run
  · subst hrun
    cases hf : s.fault with
    | true => obtain ⟨_, e⟩ | ⟨_, e⟩ := exec_command_faulted hc hf <;> exact ⟨_, e⟩
    | false => exact exec_run_goes hf hs (.inr (.inr (.inl ht)))
  · exact exec_command_goes hc hrun hs (by simp [ht])

/-- The command codes 0 to 5 are the six commands (30_encoding.md R80). -/
theorem decode_legal_command (h : c.toNat ≤ 5) : ∃ i, decode (.cmd c) = .ok i ∧ i.isCommand = true := by
  obtain h4 | h5 : c.toNat ≤ 4 ∨ c.toNat = 5 := by omega
  · obtain ⟨i, hd, hc, _⟩ := decode_answered_command h4
    exact ⟨i, hd, hc⟩
  · exact ⟨.run, by simp [decode, decodeCmd, h5], rfl⟩

/-- A legal command is performed, and leaves the host's inputs and what the source goes on with. -/
theorem perform_legal_command (h : c.toNat ≤ 5) (hs : s.step = 0#7) (ht : s.src.tail = .ended) :
    ∃ t, perform (.cmd c) s = .next t ∧ t.src.tail = .ended ∧ t.host = s.host := by
  obtain ⟨i, hd, hc⟩ := decode_legal_command h
  obtain ⟨t, e⟩ := exec_command_goes_of_ended hc hs ht
  obtain ⟨_, _, _, _, _, _, _, _, _, hhost, _⟩ := accessTable i s t e
  exact ⟨t, (perform_ok hd s).trans e, exec_command_ended hc e ht, hhost⟩

/-! ## Steps and runs -/

/-- What every step of a legal run keeps: the invariant, a source that goes on with `(0, empty, 1)`, and legal inputs to
come. -/
structure LegalState (s : State) : Prop where
  inv : s.Inv
  source : s.src.tail = .ended
  inputs : ∀ x ∈ s.host, Claims.LegalInput x

/-- A step of a legal run goes, and the run goes on as one. -/
theorem step_legalState (h : LegalState s) : ∃ t, step s = .next t ∧ LegalState t := by
  obtain ⟨hinv, hsource, hinputs⟩ := h
  suffices hstep : ∃ t, stepHost s = .next t ∧ t.src.tail = .ended ∧ ∀ x ∈ t.host, Claims.LegalInput x by
    obtain ⟨t, e, hsrc, hhost⟩ := hstep
    rw [← step_idle hinv.unforced hinv.idle] at e
    exact ⟨t, e, stepKeepsInvariant s t hinv e, hsrc, hhost⟩
  cases hh : s.host with
  | nil => exact ⟨s, by rw [stepHost, hh], hsource, hinputs⟩
  | cons x rest =>
    rw [hh, List.forall_mem_cons] at hinputs
    obtain ⟨hx, hrest⟩ := hinputs
    cases x with
    | reset => exact ⟨(s.setHost rest).applyReset, by rw [stepHost, hh], hsource, hrest⟩
    | attach y => exact ⟨(s.setHost rest).setSrc y, by rw [stepHost, hh], hx, hrest⟩
    | command c =>
      obtain ⟨t, e, hsrc, hhost⟩ := perform_legal_command (s := s.setHost rest) hx hinv.idle hsource
      exact ⟨t, stepHost_command hh e, hsrc, by rw [hhost]; exact hrest⟩

/-- Settles O49: each step takes the host's next input, which goes, and every source still goes on with
`(0, empty, 1)`. -/
theorem legalRunsNeverStop : Obligations.LegalRunsNeverStop := by
  unfold Obligations.LegalRunsNeverStop
  intro n s hinv hsource hinputs
  exact safeRun_of_progress (fun _ => step_legalState) n ⟨hinv, hsource, hinputs⟩

end Sys2Proof.Machine
end
